-- ==== Sys2Proof/Config.lean ====
section
/-! DEFINITION. The configuration record of 00_scope.md R4: what an implementation fixes, and the parameters the spec leaves
open. The record is plain data carried by the state (log 7), so a statement for every state is one for every configuration. -/

namespace Sys2Proof

/-- GCN_VERSION: the three generations the spec names (00_scope.md R1, R4; 30_encoding.md R101). -/
inductive GcnVersion where
  | v1_0
  | v1_1
  | v1_2
deriving DecidableEq, Repr

/-- SIGNAL_MODE: what a floating-point signal does beyond setting SIGNAL (60_exceptions.md R500). -/
inductive SignalMode where
  | flag
  | fault
deriving DecidableEq, Repr

/-- DENORM_MODE_F32 and DENORM_MODE_F64 (40_vopc_common.md R134). -/
inductive DenormMode where
  | preserve
  | flushInputs
deriving DecidableEq, Repr

/-- U_READING: the two readings of the operation at offset 8 (40_vopc_common.md R130, 90_conflicts.md C2). -/
inductive UReading where
  | unordered
  | asPrinted
deriving DecidableEq, Repr

/-- INLINE64: `refuse` is the spec's value (30_encoding.md R88, D14); `widen` is the marked extension R88 permits: an inline
integer is sign-extended and an inline float supplies the binary64 pattern of the same number.
PRESUMED (93_implementation_defined.md G10), unsafe under `widen`; log 13. -/
inductive Inline64Mode where
  | refuse
  | widen
deriving DecidableEq, Repr

/-- The configuration record (00_scope.md R4). LITERAL64 has the one value `refuse` and is not carried (log 14). -/
structure Config where
  /-- GCN_VERSION. -/
  version : GcnVersion
  /-- SIGNAL_MODE. -/
  signalMode : SignalMode
  /-- DENORM_MODE_F32. -/
  denormF32 : DenormMode
  /-- DENORM_MODE_F64. -/
  denormF64 : DenormMode
  /-- U_READING. -/
  uReading : UReading
  /-- INLINE64. -/
  inline64 : Inline64Mode
  /-- PC_WIDTH: `none` is the unbounded pc the spec allows (10_state.md R29). -/
  pcWidth : Option Nat
  /-- GCN12_OPCODE_MAP: a GCN 1.2 opcode paired with the number of an instruction of this spec (30_encoding.md R76; log 10). -/
  gcn12Map : List (Nat × Nat)
deriving DecidableEq, Repr

/-- The spec's defaults (00_scope.md R4; D17, D20, D21, D14, D24, D1), on GCN 1.0.
DESIGN CHOICE for the version (95_test_vectors.md's convention); log 7. -/
def Config.default : Config where
  version := .v1_0
  signalMode := .flag
  denormF32 := .preserve
  denormF64 := .preserve
  uReading := .unordered
  inline64 := .refuse
  pcWidth := none
  gcn12Map := []

/-- The two generations whose opcode map the spec gives (00_scope.md R2). -/
abbrev Config.mapped (cfg : Config) : Prop := cfg.version ≠ .v1_2

end Sys2Proof
end

