-- ==== Sys2Proof/Machine/Flags.lean ====
section
/-! DEFINITION. The lane functions: floating-point relations and signalling, integer comparison, class tests (40_vopc_common.md
R128 to R136). -/

namespace Sys2Proof.Machine

/-- A floating-point format: the widths of its exponent and fraction fields (40_vopc_common.md R128). -/
structure FpFormat where
  expBits : Nat
  fracBits : Nat
deriving DecidableEq, Repr

/-- IEEE-754 binary32: sign bit 31, exponent bits 30-23, fraction bits 22-0. -/
def binary32 : FpFormat := ⟨8, 23⟩

/-- IEEE-754 binary64: sign bit 63, exponent bits 62-52, fraction bits 51-0. -/
def binary64 : FpFormat := ⟨11, 52⟩

/-- The sign bit of a pattern. -/
def fpSign {n : Nat} (fmt : FpFormat) (x : BitVec n) : Bool := x.getLsbD (fmt.expBits + fmt.fracBits)

/-- The exponent field of a pattern. -/
def fpExp {n : Nat} (fmt : FpFormat) (x : BitVec n) : Nat := x.toNat / 2 ^ fmt.fracBits % 2 ^ fmt.expBits

/-- The fraction field of a pattern. -/
def fpFrac {n : Nat} (fmt : FpFormat) (x : BitVec n) : Nat := x.toNat % 2 ^ fmt.fracBits

/-- The exponent field of all ones. -/
def fpExpMax (fmt : FpFormat) : Nat := 2 ^ fmt.expBits - 1

/-- `isNaN`: exponent all ones and fraction not zero (40_vopc_common.md R129). -/
def isNaN {n : Nat} (fmt : FpFormat) (x : BitVec n) : Bool := fpExp fmt x == fpExpMax fmt && fpFrac fmt x != 0

/-- `isQNaN`: a NaN whose top fraction bit is 1 (40_vopc_common.md R129). -/
def isQNaN {n : Nat} (fmt : FpFormat) (x : BitVec n) : Bool := isNaN fmt x && x.getLsbD (fmt.fracBits - 1)

/-- `isSNaN`: a NaN whose top fraction bit is 0 (40_vopc_common.md R129). -/
def isSNaN {n : Nat} (fmt : FpFormat) (x : BitVec n) : Bool := isNaN fmt x && !x.getLsbD (fmt.fracBits - 1)

/-- A denormalized pattern: exponent 0 and fraction not zero (40_vopc_common.md R128). -/
def isDenorm {n : Nat} (fmt : FpFormat) (x : BitVec n) : Bool := fpExp fmt x == 0 && fpFrac fmt x != 0

/-- The magnitude of a pattern that is no NaN, in units of the least denormal: an exact natural number. The pattern of an infinity
gets the least such number above every finite one, which places it as R132 says. -/
def fpMagnitude {n : Nat} (fmt : FpFormat) (x : BitVec n) : Nat :=
  if fpExp fmt x = 0 then fpFrac fmt x else (2 ^ fmt.fracBits + fpFrac fmt x) * 2 ^ (fpExp fmt x - 1)

/-- The exact value of a pattern that is no NaN, in units of the least denormal (40_vopc_common.md R132). -/
def fpValue {n : Nat} (fmt : FpFormat) (x : BitVec n) : Int :=
  if fpSign fmt x then -(fpMagnitude fmt x : Int) else fpMagnitude fmt x

/-- The four relations of two floating-point values (40_vopc_common.md R130). -/
inductive Relation where
  | lt
  | eq
  | gt
  | un
deriving DecidableEq, Repr

/-- The one relation that holds: unordered where either is NaN, else the order of the exact values (40_vopc_common.md R130, R132). -/
def fpRelation {n : Nat} (fmt : FpFormat) (a b : BitVec n) : Relation :=
  if isNaN fmt a || isNaN fmt b then .un
  else if fpValue fmt a < fpValue fmt b then .lt
  else if fpValue fmt a = fpValue fmt b then .eq
  else .gt

/-- A denormalized input under DENORM_MODE: kept, or replaced by a zero of the same sign (40_vopc_common.md R134). -/
def flushDenorm {n : Nat} (mode : DenormMode) (fmt : FpFormat) (x : BitVec n) : BitVec n :=
  match mode with
  | .preserve => x
  | .flushInputs => if isDenorm fmt x then x &&& BitVec.twoPow n (fmt.expBits + fmt.fracBits) else x

/-- OP16: the floating-point comparison operations in opcode order (30_encoding.md R94). -/
inductive Op16 where
  | f
  | lt
  | eq
  | le
  | gt
  | lg
  | ge
  | o
  | u
  | nge
  | nlg
  | ngt
  | nle
  | neq
  | nlt
  | t
deriving DecidableEq, Repr

/-- The result of an operation for each relation: the table of 40_vopc_common.md R130 (with `u` read as unordered). -/
def op16Result (op : Op16) (r : Relation) : Bool :=
  match op with
  | .f => false
  | .lt => r == .lt
  | .eq => r == .eq
  | .le => r == .lt || r == .eq
  | .gt => r == .gt
  | .lg => r == .lt || r == .gt
  | .ge => r == .gt || r == .eq
  | .o => r != .un
  | .u => r == .un
  | .nge => !(r == .gt || r == .eq)
  | .nlg => !(r == .lt || r == .gt)
  | .ngt => !(r == .gt)
  | .nle => !(r == .lt || r == .eq)
  | .neq => !(r == .eq)
  | .nlt => !(r == .lt)
  | .t => true

/-- `cmp(a, b)` of a floating-point compare, after the modifiers: denormals as DENORM_MODE says (R134), then the operation of R130;
under U_READING = as_printed the operation U is true unless both operands are NaN. -/
def floatCompare {n : Nat} (fmt : FpFormat) (denorm : DenormMode) (reading : UReading) (op : Op16) (a b : BitVec n) : Bool :=
  let a' := flushDenorm denorm fmt a
  let b' := flushDenorm denorm fmt b
  if op = .u ∧ reading = .asPrinted then !(isNaN fmt a' && isNaN fmt b') else op16Result op (fpRelation fmt a' b')

/-- The signalling kinds (40_vopc_common.md R131). -/
inductive SigKind where
  /-- "Signal on sNAN input only": `V_CMP`, `V_CMPX`. -/
  | sNaNOnly
  /-- "Signal on any sNAN", read as any NaN: `V_CMPS`, `V_CMPSX`. -/
  | anyNaN
deriving DecidableEq, Repr

/-- `sig(a, b)` of a floating-point compare, on the inputs as R134 leaves them (40_vopc_common.md R131). -/
def floatSignals {n : Nat} (fmt : FpFormat) (denorm : DenormMode) (kind : SigKind) (a b : BitVec n) : Bool :=
  let a' := flushDenorm denorm fmt a
  let b' := flushDenorm denorm fmt b
  match kind with
  | .sNaNOnly => isSNaN fmt a' || isSNaN fmt b'
  | .anyNaN => isNaN fmt a' || isNaN fmt b'

/-- OP8: the integer comparison operations in opcode order (30_encoding.md R95). -/
inductive Op8 where
  | f
  | lt
  | eq
  | le
  | gt
  | lg
  | ge
  | t
deriving DecidableEq, Repr

/-- The result of an operation on mathematical integers (40_vopc_common.md R133). -/
def op8Result (op : Op8) (a b : Int) : Bool :=
  match op with
  | .f => false
  | .lt => decide (a < b)
  | .eq => decide (a = b)
  | .le => decide (a ≤ b)
  | .gt => decide (a > b)
  | .lg => decide (a ≠ b)
  | .ge => decide (a ≥ b)
  | .t => true

/-- `cmp(a, b)` on two's-complement integers (40_vopc_common.md R133). -/
def signedCompare {n : Nat} (op : Op8) (a b : BitVec n) : Bool := op8Result op a.toInt b.toInt

/-- `cmp(a, b)` on unsigned integers (40_vopc_common.md R133). -/
def unsignedCompare {n : Nat} (op : Op8) (a b : BitVec n) : Bool := op8Result op a.toNat b.toNat

/-- The ten classes of a floating-point pattern, in the order of their mask bits (40_vopc_common.md R135). -/
inductive FpClass where
  | signalingNaN
  | quietNaN
  | negInf
  | negNormal
  | negDenormal
  | negZero
  | posZero
  | posDenormal
  | posNormal
  | posInf
deriving DecidableEq, Repr

/-- The mask bit of a class (40_vopc_common.md R135). -/
def classBit : FpClass → Nat
  | .signalingNaN => 0
  | .quietNaN => 1
  | .negInf => 2
  | .negNormal => 3
  | .negDenormal => 4
  | .negZero => 5
  | .posZero => 6
  | .posDenormal => 7
  | .posNormal => 8
  | .posInf => 9

/-- `class(x)`: the class a pattern belongs to (40_vopc_common.md R135). -/
def fpClass {n : Nat} (fmt : FpFormat) (x : BitVec n) : FpClass :=
  if fpExp fmt x = fpExpMax fmt then
    if fpFrac fmt x ≠ 0 then (if x.getLsbD (fmt.fracBits - 1) then .quietNaN else .signalingNaN)
    else if fpSign fmt x then .negInf else .posInf
  else if fpExp fmt x = 0 then
    if fpFrac fmt x ≠ 0 then (if fpSign fmt x then .negDenormal else .posDenormal)
    else if fpSign fmt x then .negZero else .posZero
  else if fpSign fmt x then .negNormal else .posNormal

/-- `cmp(a, b) = b[class(a)]`; `a` is never flushed (40_vopc_common.md R136). -/
def classTest {n : Nat} (fmt : FpFormat) (a b : BitVec n) : Bool := b.getLsbD (classBit (fpClass fmt a))

end Sys2Proof.Machine
end

