-- ==== Sys2Proof/Word.lean ====
section
/-! DEFINITION. The plain word types of the machine (00_scope.md R4, R5: 32-bit registers, 64-bit lane masks, bytes). -/

namespace Sys2Proof

/-- A 32-bit register or instruction word (00_scope.md R4, SGPR_WIDTH and VGPR_WIDTH). -/
abbrev Word := BitVec 32

/-- A byte of instruction memory (20_memory.md R50). -/
abbrev Byte := BitVec 8

/-- A 64-bit lane mask; bit `L` belongs to lane `L` (00_scope.md R7). -/
abbrev LaneMask := BitVec 64

end Sys2Proof
end

