-- ==== Sys2Proof/Syntax.lean ====
section
/-! DEFINITION. The instructions as syntax: operands, the two forms, and the 196 instructions of spec/opcode_table.json. Each of
the table's 392 rows is one constructor in one form: its VOPC row is the constructor with a `Form.vopc`, its VOP3A row the
constructor with a `Form.vop3` (log 18). -/

namespace Sys2Proof

/-- The eight inline floating-point constants, codes 240 to 247 in this order (30_encoding.md R81, R84). -/
inductive InlineFloat where
  | half
  | negHalf
  | one
  | negOne
  | two
  | negTwo
  | four
  | negFour
deriving DecidableEq, Repr

/-- The number of a vector register, v0 to v255 (10_state.md R21). -/
abbrev VgprNum := Fin 256

/-- The number of a scalar register, s0 to s103 (10_state.md R20). -/
abbrev SgprNum := Fin 104

/-- A source operand: what a 9-bit operand code the spec admits names (30_encoding.md R81). For a 64-bit operand `sgpr n` and
`vgpr n` name the pair that starts at `n`, `vccLo` all of VCC and `execLo` all of EXEC (R88). -/
inductive Src where
  | sgpr (n : SgprNum)
  | vccLo
  | vccHi
  | m0
  | execLo
  | execHi
  /-- Inline integer, 0 to 64 or -1 to -16 (R83). -/
  | inlineInt (i : Int)
  | inlineFloat (c : InlineFloat)
  /-- The word that follows a VOPC word whose SRC0 is 255 (R86). -/
  | literal (w : Word)
  | vgpr (n : VgprNum)
deriving DecidableEq, Repr

/-- The VOP3 destination: the SGPR pair that starts at `n`, or VCC (30_encoding.md R90). -/
inductive Sdst where
  | pair (n : SgprNum)
  | vcc
deriving DecidableEq, Repr

/-- The VOP3A source modifiers of the two sources (30_encoding.md R89). -/
structure Mods where
  abs0 : Bool
  abs1 : Bool
  neg0 : Bool
  neg1 : Bool
deriving DecidableEq, Repr

/-- All modifiers off, as in the VOPC form (30_encoding.md R89). -/
def Mods.off : Mods := ⟨false, false, false, false⟩

/-- The operands of an instruction in one of its two encodings (30_encoding.md R80, R102). -/
inductive Form where
  /-- `INSTRUCTION VCC, SRC0, VSRC1`. -/
  | vopc (src0 : Src) (vsrc1 : VgprNum)
  /-- `INSTRUCTION SDST(2), SRC0, SRC1 [MODIFIERS]`. -/
  | vop3 (sdst : Sdst) (mods : Mods) (src0 src1 : Src)
deriving DecidableEq, Repr

/-- The width of both sources of an instruction (30_encoding.md R85). -/
inductive Width where
  | b32
  | b64
deriving DecidableEq, Repr

/-- The number of bits of a width. -/
abbrev Width.bits : Width → Nat
  | .b32 => 32
  | .b64 => 64

/-- The labels of a refused word (30_encoding.md R99). All refusals are one outcome; the label is for the reader. -/
inductive Reject where
  /-- GCN 1.2 under the empty opcode map (R76). -/
  | gcn12OpcodeMapEmpty
  /-- A byte of the instruction lies outside the program (20_memory.md R50). -/
  | fetchOutsideProgram
  /-- Neither VOPC nor VOP3 (R79). -/
  | encodingOutOfScope
  /-- A VOP3 opcode above 255 (R78). -/
  | vop3OpcodeOutOfScope
  /-- CLAMP, OMOD, SRC2, ABS[2], NEG[2] or an unlisted bit is not zero (R77, R98). -/
  | unsupportedModifier
  /-- One of the 60 opcodes in no table (R97). -/
  | unlistedOpcode
  /-- A source code the model refuses (R81). -/
  | operandCodeRefused
  /-- VCC_HI, M0 or EXEC_HI as a 64-bit source (R88). -/
  | operandCodeRefused64
  /-- An odd or out-of-range SGPR pair as a source (R88). -/
  | sgprPairMisaligned
  /-- v255 as the lower register of a pair (R82, R88). -/
  | vgprPairOutOfRange
  /-- An inline constant as a 64-bit source (R88). -/
  | inline64
  /-- A literal in a VOP3 source or as a 64-bit source (R86). -/
  | literalNotAdmitted
  /-- LDS_DIRECT (R92). -/
  | ldsDirect
  /-- A destination that is neither an even SGPR pair nor VCC (R90). -/
  | destinationRefused
  /-- Two different scalar registers as sources (R91). -/
  | twoScalarRegisters
deriving DecidableEq, Repr

/-- One constructor per instruction of 30_encoding.md R93; its operand says which of the instruction's two rows of
spec/opcode_table.json it stands for (R78: one opcode numbering for both encodings). -/
inductive Instr where
  | vCmpFF32 (form : Form)
  | vCmpLtF32 (form : Form)
  | vCmpEqF32 (form : Form)
  | vCmpLeF32 (form : Form)
  | vCmpGtF32 (form : Form)
  | vCmpLgF32 (form : Form)
  | vCmpGeF32 (form : Form)
  | vCmpOF32 (form : Form)
  | vCmpUF32 (form : Form)
  | vCmpNgeF32 (form : Form)
  | vCmpNlgF32 (form : Form)
  | vCmpNgtF32 (form : Form)
  | vCmpNleF32 (form : Form)
  | vCmpNeqF32 (form : Form)
  | vCmpNltF32 (form : Form)
  | vCmpTF32 (form : Form)
  | vCmpxFF32 (form : Form)
  | vCmpxLtF32 (form : Form)
  | vCmpxEqF32 (form : Form)
  | vCmpxLeF32 (form : Form)
  | vCmpxGtF32 (form : Form)
  | vCmpxLgF32 (form : Form)
  | vCmpxGeF32 (form : Form)
  | vCmpxOF32 (form : Form)
  | vCmpxUF32 (form : Form)
  | vCmpxNgeF32 (form : Form)
  | vCmpxNlgF32 (form : Form)
  | vCmpxNgtF32 (form : Form)
  | vCmpxNleF32 (form : Form)
  | vCmpxNeqF32 (form : Form)
  | vCmpxNltF32 (form : Form)
  | vCmpxTF32 (form : Form)
  | vCmpFF64 (form : Form)
  | vCmpLtF64 (form : Form)
  | vCmpEqF64 (form : Form)
  | vCmpLeF64 (form : Form)
  | vCmpGtF64 (form : Form)
  | vCmpLgF64 (form : Form)
  | vCmpGeF64 (form : Form)
  | vCmpOF64 (form : Form)
  | vCmpUF64 (form : Form)
  | vCmpNgeF64 (form : Form)
  | vCmpNlgF64 (form : Form)
  | vCmpNgtF64 (form : Form)
  | vCmpNleF64 (form : Form)
  | vCmpNeqF64 (form : Form)
  | vCmpNltF64 (form : Form)
  | vCmpTF64 (form : Form)
  | vCmpxFF64 (form : Form)
  | vCmpxLtF64 (form : Form)
  | vCmpxEqF64 (form : Form)
  | vCmpxLeF64 (form : Form)
  | vCmpxGtF64 (form : Form)
  | vCmpxLgF64 (form : Form)
  | vCmpxGeF64 (form : Form)
  | vCmpxOF64 (form : Form)
  | vCmpxUF64 (form : Form)
  | vCmpxNgeF64 (form : Form)
  | vCmpxNlgF64 (form : Form)
  | vCmpxNgtF64 (form : Form)
  | vCmpxNleF64 (form : Form)
  | vCmpxNeqF64 (form : Form)
  | vCmpxNltF64 (form : Form)
  | vCmpxTF64 (form : Form)
  | vCmpsFF32 (form : Form)
  | vCmpsLtF32 (form : Form)
  | vCmpsEqF32 (form : Form)
  | vCmpsLeF32 (form : Form)
  | vCmpsGtF32 (form : Form)
  | vCmpsLgF32 (form : Form)
  | vCmpsGeF32 (form : Form)
  | vCmpsOF32 (form : Form)
  | vCmpsUF32 (form : Form)
  | vCmpsNgeF32 (form : Form)
  | vCmpsNlgF32 (form : Form)
  | vCmpsNgtF32 (form : Form)
  | vCmpsNleF32 (form : Form)
  | vCmpsNeqF32 (form : Form)
  | vCmpsNltF32 (form : Form)
  | vCmpsTF32 (form : Form)
  | vCmpsxFF32 (form : Form)
  | vCmpsxLtF32 (form : Form)
  | vCmpsxEqF32 (form : Form)
  | vCmpsxLeF32 (form : Form)
  | vCmpsxGtF32 (form : Form)
  | vCmpsxLgF32 (form : Form)
  | vCmpsxGeF32 (form : Form)
  | vCmpsxOF32 (form : Form)
  | vCmpsxUF32 (form : Form)
  | vCmpsxNgeF32 (form : Form)
  | vCmpsxNlgF32 (form : Form)
  | vCmpsxNgtF32 (form : Form)
  | vCmpsxNleF32 (form : Form)
  | vCmpsxNeqF32 (form : Form)
  | vCmpsxNltF32 (form : Form)
  | vCmpsxTF32 (form : Form)
  | vCmpsFF64 (form : Form)
  | vCmpsLtF64 (form : Form)
  | vCmpsEqF64 (form : Form)
  | vCmpsLeF64 (form : Form)
  | vCmpsGtF64 (form : Form)
  | vCmpsLgF64 (form : Form)
  | vCmpsGeF64 (form : Form)
  | vCmpsOF64 (form : Form)
  | vCmpsUF64 (form : Form)
  | vCmpsNgeF64 (form : Form)
  | vCmpsNlgF64 (form : Form)
  | vCmpsNgtF64 (form : Form)
  | vCmpsNleF64 (form : Form)
  | vCmpsNeqF64 (form : Form)
  | vCmpsNltF64 (form : Form)
  | vCmpsTF64 (form : Form)
  | vCmpsxFF64 (form : Form)
  | vCmpsxLtF64 (form : Form)
  | vCmpsxEqF64 (form : Form)
  | vCmpsxLeF64 (form : Form)
  | vCmpsxGtF64 (form : Form)
  | vCmpsxLgF64 (form : Form)
  | vCmpsxGeF64 (form : Form)
  | vCmpsxOF64 (form : Form)
  | vCmpsxUF64 (form : Form)
  | vCmpsxNgeF64 (form : Form)
  | vCmpsxNlgF64 (form : Form)
  | vCmpsxNgtF64 (form : Form)
  | vCmpsxNleF64 (form : Form)
  | vCmpsxNeqF64 (form : Form)
  | vCmpsxNltF64 (form : Form)
  | vCmpsxTF64 (form : Form)
  | vCmpFI32 (form : Form)
  | vCmpLtI32 (form : Form)
  | vCmpEqI32 (form : Form)
  | vCmpLeI32 (form : Form)
  | vCmpGtI32 (form : Form)
  | vCmpLgI32 (form : Form)
  | vCmpGeI32 (form : Form)
  | vCmpTI32 (form : Form)
  | vCmpClassF32 (form : Form)
  | vCmpxFI32 (form : Form)
  | vCmpxLtI32 (form : Form)
  | vCmpxEqI32 (form : Form)
  | vCmpxLeI32 (form : Form)
  | vCmpxGtI32 (form : Form)
  | vCmpxLgI32 (form : Form)
  | vCmpxGeI32 (form : Form)
  | vCmpxTI32 (form : Form)
  | vCmpxClassF32 (form : Form)
  | vCmpFI64 (form : Form)
  | vCmpLtI64 (form : Form)
  | vCmpEqI64 (form : Form)
  | vCmpLeI64 (form : Form)
  | vCmpGtI64 (form : Form)
  | vCmpLgI64 (form : Form)
  | vCmpGeI64 (form : Form)
  | vCmpTI64 (form : Form)
  | vCmpClassF64 (form : Form)
  | vCmpxFI64 (form : Form)
  | vCmpxLtI64 (form : Form)
  | vCmpxEqI64 (form : Form)
  | vCmpxLeI64 (form : Form)
  | vCmpxGtI64 (form : Form)
  | vCmpxLgI64 (form : Form)
  | vCmpxGeI64 (form : Form)
  | vCmpxTI64 (form : Form)
  | vCmpxClassF64 (form : Form)
  | vCmpFU32 (form : Form)
  | vCmpLtU32 (form : Form)
  | vCmpEqU32 (form : Form)
  | vCmpLeU32 (form : Form)
  | vCmpGtU32 (form : Form)
  | vCmpLgU32 (form : Form)
  | vCmpGeU32 (form : Form)
  | vCmpTU32 (form : Form)
  | vCmpxFU32 (form : Form)
  | vCmpxLtU32 (form : Form)
  | vCmpxEqU32 (form : Form)
  | vCmpxLeU32 (form : Form)
  | vCmpxGtU32 (form : Form)
  | vCmpxLgU32 (form : Form)
  | vCmpxGeU32 (form : Form)
  | vCmpxTU32 (form : Form)
  | vCmpFU64 (form : Form)
  | vCmpLtU64 (form : Form)
  | vCmpEqU64 (form : Form)
  | vCmpLeU64 (form : Form)
  | vCmpGtU64 (form : Form)
  | vCmpLgU64 (form : Form)
  | vCmpGeU64 (form : Form)
  | vCmpTU64 (form : Form)
  | vCmpxFU64 (form : Form)
  | vCmpxLtU64 (form : Form)
  | vCmpxEqU64 (form : Form)
  | vCmpxLeU64 (form : Form)
  | vCmpxGtU64 (form : Form)
  | vCmpxLgU64 (form : Form)
  | vCmpxGeU64 (form : Form)
  | vCmpxTU64 (form : Form)
deriving DecidableEq, Repr

end Sys2Proof
end

