-- ==== Sys2Proof/Machine/Admission.lean ====
section
/-! DEFINITION. The well-formedness of one instruction's operands (30_encoding.md R81 to R92), in the order of checks of R99, and
the reading of a `Form` that both encodings share (R80, R89, R90). -/

namespace Sys2Proof

/-- The first source (30_encoding.md R80). -/
def Form.src0 : Form → Src
  | .vopc src0 _ => src0
  | .vop3 _ _ src0 _ => src0

/-- The second source; in the VOPC form the vector register `v[VSRC1]` (30_encoding.md R80, R82). -/
def Form.src1 : Form → Src
  | .vopc _ vsrc1 => .vgpr vsrc1
  | .vop3 _ _ _ src1 => src1

/-- The destination; in the VOPC form VCC (30_encoding.md R90). -/
def Form.dest : Form → Sdst
  | .vopc _ _ => .vcc
  | .vop3 sdst _ _ _ => sdst

/-- The source modifiers; the VOPC form has none (30_encoding.md R89). -/
def Form.mods : Form → Mods
  | .vopc _ _ => .off
  | .vop3 _ mods _ _ => mods

/-- Whether the source is a literal constant (30_encoding.md R86). -/
def Src.isLiteral : Src → Bool
  | .literal _ => true
  | _ => false

/-- The length of the instruction in bytes (10_state.md R29, 30_encoding.md R79). -/
def Form.length : Form → Nat
  | .vopc src0 _ => if src0.isLiteral then 8 else 4
  | .vop3 _ _ _ _ => 8

/-- NUM_SGPR (00_scope.md R4, 10_state.md R20). -/
def numSgpr : GcnVersion → Nat
  | .v1_0 => 104
  | .v1_1 => 104
  | .v1_2 => 102

/-- Whether `n` starts an SGPR pair: even, with both registers in the file (10_state.md R22, 30_encoding.md R88, R90). -/
def pairStart (cfg : Config) (n : Nat) : Bool := n % 2 == 0 && decide (n + 1 < numSgpr cfg.version)

/-- Why a source operand is refused, if it is (30_encoding.md R81, R82, R86, R88). `litOk` says that a literal may stand here (the
VOPC SRC0); `mask` that the operand is the class mask of an `_F64` class test, for which R88 admits inline integers. -/
def admitSrc (cfg : Config) (w : Width) (litOk mask : Bool) : Src → Option Reject
  | .sgpr n =>
    if numSgpr cfg.version ≤ n.val then some .operandCodeRefused
    else match w with
      | .b32 => none
      | .b64 => if pairStart cfg n then none else some .sgprPairMisaligned
  | .vccLo => none
  | .execLo => none
  | .vccHi => match w with
    | .b32 => none
    | .b64 => some .operandCodeRefused64
  | .m0 => match w with
    | .b32 => none
    | .b64 => some .operandCodeRefused64
  | .execHi => match w with
    | .b32 => none
    | .b64 => some .operandCodeRefused64
  | .inlineInt i =>
    if i < -16 ∨ 64 < i then some .operandCodeRefused
    else match w with
      | .b32 => none
      | .b64 => if mask || cfg.inline64 == .widen then none else some .inline64
  | .inlineFloat _ => match w with
    | .b32 => none
    | .b64 => if cfg.inline64 == .widen then none else some .inline64
  | .literal _ => match w with
    | .b32 => if litOk then none else some .literalNotAdmitted
    | .b64 => some .literalNotAdmitted
  | .vgpr n => match w with
    | .b32 => none
    | .b64 => if n.val = 255 then some .vgprPairOutOfRange else none

/-- Why a VOP3 destination is refused, if it is (30_encoding.md R90). -/
def admitSdst (cfg : Config) : Sdst → Option Reject
  | .pair n => if pairStart cfg n then none else some .destinationRefused
  | .vcc => none

/-- The operands that count as a scalar register: SGPR, VCC, M0 and EXEC (30_encoding.md R91, D16). -/
def Src.isScalarReg : Src → Bool
  | .sgpr _ => true
  | .vccLo => true
  | .vccHi => true
  | .m0 => true
  | .execLo => true
  | .execHi => true
  | _ => false

/-- "only one SGPR can be read by instruction": two scalar registers must be the same operand code (30_encoding.md R91). -/
def admitScalars (src0 src1 : Src) : Option Reject :=
  if src0.isScalarReg && src1.isScalarReg && src0 != src1 then some .twoScalarRegisters else none

/-- Why the operands of an instruction are refused, if they are: SRC0, SRC1, destination, two scalar registers, the first check
that fails (30_encoding.md R99). `mask` marks the `_F64` class tests, whose SRC1 is a class mask. -/
def admitForm (cfg : Config) (w : Width) (mask : Bool) : Form → Option Reject
  | .vopc src0 vsrc1 => admitSrc cfg w true false src0 <|> admitSrc cfg w false mask (.vgpr vsrc1)
  | .vop3 sdst _ src0 src1 =>
    admitSrc cfg w false false src0 <|> admitSrc cfg w false mask src1 <|> admitSdst cfg sdst <|> admitScalars src0 src1

/-- Whether a byte address fits PC_WIDTH (10_state.md R29). -/
def pcFits (cfg : Config) (a : Nat) : Bool :=
  match cfg.pcWidth with
  | none => true
  | some k => decide (a < 2 ^ k)

end Sys2Proof
end

