-- ==== Sys2Proof/Machine/State.lean ====
section
/-! DEFINITION. The machine's state, its two ways to stop, and the state at reset (10_state.md). -/

namespace Sys2Proof.Machine

/-- Instruction memory (20_memory.md R50): the program's bytes by address, in canonical form (addresses strictly rising,
`Memory.wf`). An unlisted address holds no byte; a fetch of it is refused. -/
abbrev Memory := List Host.Cell

/-- The state of one wavefront (10_state.md), with the launch's parameters (70_reset_and_hazards.md R541), which no step writes
(log 7). The fields `…Has` say which registers hold a value (R31; 70_reset_and_hazards.md R541 (c)): a read of one that holds
none in an executing lane faults (log 4). EXEC always holds a value (R32). -/
structure State where
  /-- `s0` to `s103` (R20). -/
  sgprs : Vector Word 104
  /-- `v0` to `v255`, each with 64 lanes (R21). -/
  vgprs : Vector (Vector Word 64) 256
  /-- Which SGPRs hold a value (R31). -/
  sgprHas : Vector Bool 104
  /-- Which lanes of each VGPR hold a value: bit `L` for lane `L` (R31). -/
  vgprHas : Vector LaneMask 256
  /-- VCC, one bit per lane (R25). -/
  vcc : LaneMask
  /-- Whether VCC_LO holds a value (R31: a half of VCC). -/
  vccLoHas : Bool
  /-- Whether VCC_HI holds a value (R31: a half of VCC). -/
  vccHiHas : Bool
  /-- EXEC, one bit per lane (R26). -/
  execMask : LaneMask
  /-- M0 (R27). -/
  m0 : Word
  /-- Whether M0 holds a value (R31). -/
  m0Has : Bool
  /-- The program counter, a byte address (R29). -/
  pc : Nat
  /-- SIGNAL, the sticky flag of floating-point signals (R30). -/
  signal : Bool
  /-- PROGRAM_BASE (20_memory.md R50). -/
  programBase : Nat
  /-- PROGRAM, the bytes of instruction memory (20_memory.md R50). -/
  mem : Memory
  /-- The configuration record (00_scope.md R4). -/
  config : Config
deriving DecidableEq, Repr

/-- The faults of 60_exceptions.md R503. -/
inductive Fault where
  /-- Raised by an instruction that reads a register with no value in an executing lane (10_state.md R31, 60_exceptions.md R505).
  Nothing is written: the state is the one the step started in. Safe: the run stops where hardware goes on with some value. -/
  | unwrittenRegister
  /-- Raised by a floating-point compare that signals under SIGNAL_MODE = fault, after all its writes (R500, R506); `after` is
  the state with those writes made. Safe: the run stops where hardware may go on or take a trap. -/
  | signal (after : State)
deriving DecidableEq, Repr

/-- The refusals: the model gives the step no meaning. -/
inductive Refusal where
  /-- Raised by a dispatch arm of an instruction that has no meaning yet. Safe. -/
  | notModelled (mnemonic : String)
  /-- Raised by the decoder, or by a meaning on an ill-formed term, with the label of 30_encoding.md R99. Safe. -/
  | rejected (why : Reject)
  /-- Raised by a meaning where `pc + len` does not fit PC_WIDTH (10_state.md R29). Safe. -/
  | pcOverflow
  /-- Raised by the step where PROGRAM_BASE is not a multiple of 4 (20_memory.md R54). Safe. -/
  | misalignedBase
  /-- Raised by the step where the pc is not a multiple of 4, which no launch the spec allows reaches (20_memory.md R54). Safe. -/
  | misalignedPc
  /-- Raised by the step at `pc = PROGRAM_END`: the run is over and the state final (70_reset_and_hazards.md R544; log 6). Safe. -/
  | runEnded
deriving DecidableEq, Repr

/-- The outcome of a step or of a meaning. -/
abbrev Outcome := Host.Outcome State Fault Refusal

/-- The state at reset (10_state.md R32). SIGNAL is 0, the pc PROGRAM_BASE, the configuration the spec's defaults.
DESIGN CHOICE, unsafe: SGPRs, VGPRs, VCC and M0 hold 0 (logs 1, 2), so that every register has a value (log 4); PROGRAM_BASE is 0 and
the program empty (log 5).
PRESUMED, unsafe: EXEC is all ones, the family's full wave (log 3). -/
def State.reset : State where
  sgprs := Vector.replicate 104 0#32
  vgprs := Vector.replicate 256 (Vector.replicate 64 0#32)
  sgprHas := Vector.replicate 104 true
  vgprHas := Vector.replicate 256 (BitVec.allOnes 64)
  vcc := 0#64
  vccLoHas := true
  vccHiHas := true
  execMask := BitVec.allOnes 64
  m0 := 0#32
  m0Has := true
  pc := 0
  signal := false
  programBase := 0
  mem := []
  config := .default

end Sys2Proof.Machine
end

