-- ==== Sys2Proof/Machine/Operands.lean ====
section
/-! DEFINITION. Operand fetch and the source modifiers (30_encoding.md R81 to R88, 40_vopc_common.md R122, R123). -/

namespace Sys2Proof.Machine

/-- `s[n]` (10_state.md R20); 0 for a number outside the file, which no well-formed operand names (log 17). -/
def State.sgpr (s : State) (n : Nat) : Word := if h : n < 104 then s.sgprs[n] else 0#32

/-- `v[n][L]` (10_state.md R21); 0 for a number or lane outside the file, which no well-formed operand names (log 17). -/
def State.vgpr (s : State) (n L : Nat) : Word := if h : n < 256 ∧ L < 64 then (s.vgprs[n]'h.1)[L]'h.2 else 0#32

/-- Whether `s[n]` holds a value (10_state.md R31). -/
def State.sgprHolds (s : State) (n : Nat) : Bool := if h : n < 104 then s.sgprHas[n] else false

/-- Whether lane `L` of `v[n]` holds a value (10_state.md R31). -/
def State.vgprHolds (s : State) (n L : Nat) : Bool := if h : n < 256 then s.vgprHas[n].getLsbD L else false

/-- The low 32 bits of a mask register: VCC_LO, EXEC_LO (10_state.md R28). -/
def lowHalf (d : LaneMask) : Word := d.extractLsb' 0 32

/-- The high 32 bits of a mask register: VCC_HI, EXEC_HI (10_state.md R28). -/
def highHalf (d : LaneMask) : Word := d.extractLsb' 32 32

/-- `{hi, lo}`: a register pair as a 64-bit value, the lower-numbered register the less significant half (10_state.md R22). -/
def pairValue (hi lo : Word) : BitVec 64 := hi ++ lo

/-- The binary32 pattern of an inline float (30_encoding.md R84). -/
def inlineFloat32 : InlineFloat → Word
  | .half => 0x3F000000#32
  | .negHalf => 0xBF000000#32
  | .one => 0x3F800000#32
  | .negOne => 0xBF800000#32
  | .two => 0x40000000#32
  | .negTwo => 0xC0000000#32
  | .four => 0x40800000#32
  | .negFour => 0xC0800000#32

/-- The binary64 pattern of the same number. PRESUMED (93_implementation_defined.md G10), used only under INLINE64 = widen; log 13. -/
def inlineFloat64 : InlineFloat → BitVec 64
  | .half => 0x3FE0000000000000#64
  | .negHalf => 0xBFE0000000000000#64
  | .one => 0x3FF0000000000000#64
  | .negOne => 0xBFF0000000000000#64
  | .two => 0x4000000000000000#64
  | .negTwo => 0xC000000000000000#64
  | .four => 0x4010000000000000#64
  | .negFour => 0xC010000000000000#64

/-- A 32-bit source in lane `L` (30_encoding.md R81, R83, R84, R86, R87; 40_vopc_common.md R122). -/
def fetch32 (s : State) (src : Src) (L : Nat) : BitVec 32 :=
  match src with
  | .sgpr n => s.sgpr n
  | .vccLo => lowHalf s.vcc
  | .vccHi => highHalf s.vcc
  | .m0 => s.m0
  | .execLo => lowHalf s.execMask
  | .execHi => highHalf s.execMask
  | .inlineInt i => BitVec.ofInt 32 i
  | .inlineFloat c => inlineFloat32 c
  | .literal w => w
  | .vgpr n => s.vgpr n L

/-- A 64-bit source in lane `L` (30_encoding.md R88). VCC_HI, M0, EXEC_HI and a literal are never admitted here; for a term that
holds one the value is zero-extended (log 17). -/
def fetch64 (s : State) (src : Src) (L : Nat) : BitVec 64 :=
  match src with
  | .sgpr n => pairValue (s.sgpr (n + 1)) (s.sgpr n)
  | .vccLo => s.vcc
  | .vccHi => (highHalf s.vcc).setWidth 64
  | .m0 => s.m0.setWidth 64
  | .execLo => s.execMask
  | .execHi => (highHalf s.execMask).setWidth 64
  | .inlineInt i => BitVec.ofInt 64 i
  | .inlineFloat c => inlineFloat64 c
  | .literal w => w.setWidth 64
  | .vgpr n => pairValue (s.vgpr (n + 1) L) (s.vgpr n L)

/-- `fetch(src, L, T)` (40_vopc_common.md R122), of the width of the operand type (30_encoding.md R85). -/
def fetch (w : Width) (s : State) (src : Src) (L : Nat) : BitVec w.bits :=
  match w with
  | .b32 => fetch32 s src L
  | .b64 => fetch64 s src L

/-- Whether a 32-bit source holds a value in lane `L` (10_state.md R31); constants, the literal and EXEC always do. -/
def holds32 (s : State) (src : Src) (L : Nat) : Bool :=
  match src with
  | .sgpr n => s.sgprHolds n
  | .vccLo => s.vccLoHas
  | .vccHi => s.vccHiHas
  | .m0 => s.m0Has
  | .execLo => true
  | .execHi => true
  | .inlineInt _ => true
  | .inlineFloat _ => true
  | .literal _ => true
  | .vgpr n => s.vgprHolds n L

/-- Whether a 64-bit source holds a value in lane `L`: both registers of a pair, both halves of VCC (10_state.md R31, R22;
30_encoding.md R88). -/
def holds64 (s : State) (src : Src) (L : Nat) : Bool :=
  match src with
  | .sgpr n => s.sgprHolds n && s.sgprHolds (n + 1)
  | .vccLo => s.vccLoHas && s.vccHiHas
  | .vccHi => s.vccHiHas
  | .m0 => s.m0Has
  | .execLo => true
  | .execHi => true
  | .inlineInt _ => true
  | .inlineFloat _ => true
  | .literal _ => true
  | .vgpr n => s.vgprHolds n L && s.vgprHolds (n + 1) L

/-- Whether a source of the operand type's width holds a value in lane `L` (40_vopc_common.md R122). -/
def holds (w : Width) (s : State) (src : Src) (L : Nat) : Bool :=
  match w with
  | .b32 => holds32 s src L
  | .b64 => holds64 s src L

/-- Whether both sources of an instruction hold a value in lane `L` (60_exceptions.md R505 (2)). -/
def operandsHold (w : Width) (s : State) (form : Form) (L : Nat) : Bool := holds w s form.src0 L && holds w s form.src1 L

/-- The source modifiers on a pattern: ABS clears the top bit, then NEG inverts it (40_vopc_common.md R123). -/
def applyMods {n : Nat} (abs neg : Bool) (x : BitVec n) : BitVec n :=
  let top := BitVec.twoPow n (n - 1)
  let y := if abs then x &&& ~~~top else x
  if neg then y ^^^ top else y

/-- `mod0(fetch(SRC0, L, T))` (40_vopc_common.md R120 step 4). -/
def operand0 (w : Width) (s : State) (form : Form) (L : Nat) : BitVec w.bits :=
  applyMods form.mods.abs0 form.mods.neg0 (fetch w s form.src0 L)

/-- `mod1(fetch(SRC1, L, T))` (40_vopc_common.md R120 step 4). -/
def operand1 (w : Width) (s : State) (form : Form) (L : Nat) : BitVec w.bits :=
  applyMods form.mods.abs1 form.mods.neg1 (fetch w s form.src1 L)

end Sys2Proof.Machine
end

