-- ==== Sys2Proof/Machine/Ops.lean ====
section
/-! DEFINITION. The named operations over memory and registers, the floating-point signal, and the one step every instruction
instantiates (20_memory.md R50, R51; 40_vopc_common.md R120 to R127; 60_exceptions.md R500). -/

namespace Sys2Proof.Machine

/-- The canonical form of memory: addresses strictly rising. -/
def Memory.wf : Memory → Bool
  | [] => true
  | [_] => true
  | c :: d :: m => decide (c.1 < d.1) && Memory.wf (d :: m)

/-- The byte at an address; `none` where the program has none (20_memory.md R50). -/
def Memory.read : Memory → Nat → Option Byte
  | [], _ => none
  | (k, b) :: m, a => if k = a then some b else Memory.read m a

/-- Memory with one byte placed. No instruction does this (20_memory.md R53); it is how a launch lays its program out. -/
def Memory.write (m : Memory) (a : Nat) (b : Byte) : Memory :=
  match m with
  | [] => [(a, b)]
  | (k, c) :: rest =>
    if a < k then (a, b) :: (k, c) :: rest
    else if a = k then (a, b) :: rest
    else (k, c) :: Memory.write rest a b

/-- Memory with a run of bytes placed from an address on. -/
def Memory.load (m : Memory) (a : Nat) : List Byte → Memory
  | [] => m
  | b :: bs => Memory.load (Memory.write m a b) (a + 1) bs

/-- At most `n` bytes from an address on, up to the first address that holds none. -/
def Memory.readRun (m : Memory) (a : Nat) : Nat → List Byte
  | 0 => []
  | n + 1 =>
    match Memory.read m a with
    | none => []
    | some b => b :: Memory.readRun m (a + 1) n

/-- PROGRAM_END = PROGRAM_BASE + length(PROGRAM) (20_memory.md R50), PROGRAM being the listed bytes; log 19 for a state of no launch whose
bytes have a gap. -/
def State.programEnd (s : State) : Nat := s.programBase + s.mem.length

/-- VCC written, all 64 bits (10_state.md R25); both halves then hold a value (R31). -/
def State.setVcc (s : State) (d : LaneMask) : State := { s with vcc := d, vccLoHas := true, vccHiHas := true }

/-- EXEC written, all 64 bits (10_state.md R26). -/
def State.setExec (s : State) (d : LaneMask) : State := { s with execMask := d }

/-- `s[n]` written, which then holds a value (10_state.md R31); nothing for a number outside the file, which no well-formed
destination names (log 17). -/
def State.setSgpr (s : State) (n : Nat) (x : Word) : State :=
  { s with sgprs := s.sgprs.setIfInBounds n x, sgprHas := s.sgprHas.setIfInBounds n true }

/-- The pc moved to an address (10_state.md R29). -/
def State.setPc (s : State) (a : Nat) : State := { s with pc := a }

/-- SIGNAL set; nothing in scope clears it (10_state.md R30). -/
def State.setSignal (s : State) : State := { s with signal := true }

/-- The destination written with the mask: VCC, or the pair with lanes 0-31 in the lower-numbered register (40_vopc_common.md R126,
10_state.md R28). -/
def State.writeDest (s : State) (dest : Sdst) (d : LaneMask) : State :=
  match dest with
  | .vcc => s.setVcc d
  | .pair n => (s.setSgpr n (lowHalf d)).setSgpr (n + 1) (highHalf d)

/-- The sum of `2 ^ L` over the lanes below `n` where `f` is true. -/
def laneSum (f : Nat → Bool) : Nat → Nat
  | 0 => 0
  | n + 1 => laneSum f n + (f n).toNat * 2 ^ n

/-- The 64-bit mask whose bit `L` is `f L` (00_scope.md R7). -/
def laneMask (f : Nat → Bool) : LaneMask := BitVec.ofNat 64 (laneSum f 64)

/-- Whether `f` is true in at least one of the 64 lanes. -/
def anyLane (f : Nat → Bool) : Bool := (List.range 64).any f

/-- `raise Signal(INVALID)` (60_exceptions.md R500): SIGNAL is set; then by SIGNAL_MODE the run goes on, or the step ends in the
fault with every write made. The spec's one exceptional event: it describes no trap entry and no return (R506, R507). -/
def raiseSignal (s : State) : Outcome :=
  match s.config.signalMode with
  | .flag => .next s.setSignal
  | .fault => .fault (.signal s.setSignal)

/-- Steps 2 to 8 of 40_vopc_common.md R120 for a well-formed instruction: `cmp` and `sig` give a lane's result and signal from the
old state, lanes with EXEC 0 get 0 (R125), the destination and, in the X forms, EXEC are written (R126, R127), the pc
advances, and last the signal is raised once if any executing lane signalled. -/
def finishCompare (s : State) (form : Form) (writesExec : Bool) (cmp sig : Nat → Bool) : Outcome :=
  let d := laneMask fun L => s.execMask.getLsbD L && cmp L
  let written := s.writeDest form.dest d
  let masked := if writesExec then written.setExec d else written
  let advanced := masked.setPc (s.pc + form.length)
  if anyLane fun L => s.execMask.getLsbD L && sig L then raiseSignal advanced else .next advanced

/-- Whether an executing lane reads a register with no value (60_exceptions.md R505 (2), 40_vopc_common.md R120 steps 3 and 4). A
scalar source is the same in every lane, so this is its read with EXEC not 0. -/
def readsUnwritten (w : Width) (s : State) (form : Form) : Bool :=
  anyLane fun L => s.execMask.getLsbD L && !operandsHold w s form L

/-- The whole step of 40_vopc_common.md R120 in the order of 60_exceptions.md R505: well-formedness, then the fit of the pc
(10_state.md R29), then the fault of a read with no value, with nothing written, then `finishCompare` on the modified operands of
each lane. `mask` marks the `_F64` class tests.
DESIGN CHOICE for the place of the pc check; log 11. -/
def compareStep (w : Width) (mask writesExec : Bool) (cmp sig : BitVec w.bits → BitVec w.bits → Bool) (form : Form)
    (s : State) : Outcome :=
  match admitForm s.config w mask form with
  | some why => .refused (.rejected why)
  | none =>
    if pcFits s.config (s.pc + form.length) then
      if readsUnwritten w s form then .fault .unwrittenRegister
      else finishCompare s form writesExec (fun L => cmp (operand0 w s form L) (operand1 w s form L))
        (fun L => sig (operand0 w s form L) (operand1 w s form L))
    else .refused .pcOverflow

/-- `sig` of the instructions that never signal (40_vopc_common.md R131). -/
def neverSignals {n : Nat} (_ _ : BitVec n) : Bool := false

/-- A single-precision compare (40_vopc_common.md R120 with `T = F32`). -/
def compareF32 (op : Op16) (writesExec : Bool) (kind : SigKind) (form : Form) (s : State) : Outcome :=
  compareStep .b32 false writesExec (floatCompare binary32 s.config.denormF32 s.config.uReading op)
    (floatSignals binary32 s.config.denormF32 kind) form s

/-- A double-precision compare (40_vopc_common.md R120 with `T = F64`). -/
def compareF64 (op : Op16) (writesExec : Bool) (kind : SigKind) (form : Form) (s : State) : Outcome :=
  compareStep .b64 false writesExec (floatCompare binary64 s.config.denormF64 s.config.uReading op)
    (floatSignals binary64 s.config.denormF64 kind) form s

/-- A signed integer compare (40_vopc_common.md R120 with `T = I32` or `I64`). -/
def compareSigned (w : Width) (op : Op8) (writesExec : Bool) (form : Form) (s : State) : Outcome :=
  compareStep w false writesExec (signedCompare op) neverSignals form s

/-- An unsigned integer compare (40_vopc_common.md R120 with `T = U32` or `U64`). -/
def compareUnsigned (w : Width) (op : Op8) (writesExec : Bool) (form : Form) (s : State) : Outcome :=
  compareStep w false writesExec (unsignedCompare op) neverSignals form s

/-- A single-precision class test (47_vcmp_class.md R336, R352). -/
def compareClassF32 (writesExec : Bool) (form : Form) (s : State) : Outcome :=
  compareStep .b32 false writesExec (classTest binary32) neverSignals form s

/-- A double-precision class test; its SRC1 is the class mask (47_vcmp_class.md R368, R384). -/
def compareClassF64 (writesExec : Bool) (form : Form) (s : State) : Outcome :=
  compareStep .b64 true writesExec (classTest binary64) neverSignals form s

end Sys2Proof.Machine
end

