-- ==== Sys2Proof/Machine/VcmpClass.lean ====
section
/-! DEFINITION. The class tests, opcodes 0x88, 0x98, 0xA8 and 0xB8 (47_vcmp_class.md). Each meaning is the step of 40_vopc_common.md R120 with
the type, operation, EXEC write and signalling kind of its rule. -/

namespace Sys2Proof.Machine

/-- `V_CMP_CLASS_F32` (47_vcmp_class.md R336). -/
def execVCmpClassF32 (form : Form) (s : State) : Outcome := compareClassF32 false form s

/-- `V_CMPX_CLASS_F32` (47_vcmp_class.md R352). -/
def execVCmpxClassF32 (form : Form) (s : State) : Outcome := compareClassF32 true form s

/-- `V_CMP_CLASS_F64` (47_vcmp_class.md R368). -/
def execVCmpClassF64 (form : Form) (s : State) : Outcome := compareClassF64 false form s

/-- `V_CMPX_CLASS_F64` (47_vcmp_class.md R384). -/
def execVCmpxClassF64 (form : Form) (s : State) : Outcome := compareClassF64 true form s

end Sys2Proof.Machine
end

