-- ==== Sys2Proof/Machine/VcmpF32.lean ====
section
/-! DEFINITION. The V_CMP single-precision compares, opcodes 0x00-0x0F (41_vcmp_f32.md). Each meaning is the step of 40_vopc_common.md R120 with
the type, operation, EXEC write and signalling kind of its rule. -/

namespace Sys2Proof.Machine

/-- `V_CMP_F_F32` (41_vcmp_f32.md R200). -/
def execVCmpFF32 (form : Form) (s : State) : Outcome := compareF32 .f false .sNaNOnly form s

/-- `V_CMP_LT_F32` (41_vcmp_f32.md R201). -/
def execVCmpLtF32 (form : Form) (s : State) : Outcome := compareF32 .lt false .sNaNOnly form s

/-- `V_CMP_EQ_F32` (41_vcmp_f32.md R202). -/
def execVCmpEqF32 (form : Form) (s : State) : Outcome := compareF32 .eq false .sNaNOnly form s

/-- `V_CMP_LE_F32` (41_vcmp_f32.md R203). -/
def execVCmpLeF32 (form : Form) (s : State) : Outcome := compareF32 .le false .sNaNOnly form s

/-- `V_CMP_GT_F32` (41_vcmp_f32.md R204). -/
def execVCmpGtF32 (form : Form) (s : State) : Outcome := compareF32 .gt false .sNaNOnly form s

/-- `V_CMP_LG_F32` (41_vcmp_f32.md R205). -/
def execVCmpLgF32 (form : Form) (s : State) : Outcome := compareF32 .lg false .sNaNOnly form s

/-- `V_CMP_GE_F32` (41_vcmp_f32.md R206). -/
def execVCmpGeF32 (form : Form) (s : State) : Outcome := compareF32 .ge false .sNaNOnly form s

/-- `V_CMP_O_F32` (41_vcmp_f32.md R207). -/
def execVCmpOF32 (form : Form) (s : State) : Outcome := compareF32 .o false .sNaNOnly form s

/-- `V_CMP_U_F32` (41_vcmp_f32.md R208). -/
def execVCmpUF32 (form : Form) (s : State) : Outcome := compareF32 .u false .sNaNOnly form s

/-- `V_CMP_NGE_F32` (41_vcmp_f32.md R209). -/
def execVCmpNgeF32 (form : Form) (s : State) : Outcome := compareF32 .nge false .sNaNOnly form s

/-- `V_CMP_NLG_F32` (41_vcmp_f32.md R210). -/
def execVCmpNlgF32 (form : Form) (s : State) : Outcome := compareF32 .nlg false .sNaNOnly form s

/-- `V_CMP_NGT_F32` (41_vcmp_f32.md R211). -/
def execVCmpNgtF32 (form : Form) (s : State) : Outcome := compareF32 .ngt false .sNaNOnly form s

/-- `V_CMP_NLE_F32` (41_vcmp_f32.md R212). -/
def execVCmpNleF32 (form : Form) (s : State) : Outcome := compareF32 .nle false .sNaNOnly form s

/-- `V_CMP_NEQ_F32` (41_vcmp_f32.md R213). -/
def execVCmpNeqF32 (form : Form) (s : State) : Outcome := compareF32 .neq false .sNaNOnly form s

/-- `V_CMP_NLT_F32` (41_vcmp_f32.md R214). -/
def execVCmpNltF32 (form : Form) (s : State) : Outcome := compareF32 .nlt false .sNaNOnly form s

/-- `V_CMP_T_F32` (41_vcmp_f32.md R215). -/
def execVCmpTF32 (form : Form) (s : State) : Outcome := compareF32 .t false .sNaNOnly form s

end Sys2Proof.Machine
end

