-- ==== Sys2Proof/Machine/VcmpF64.lean ====
section
/-! DEFINITION. The V_CMP double-precision compares, opcodes 0x20-0x2F (42_vcmp_f64.md). Each meaning is the step of 40_vopc_common.md R120 with
the type, operation, EXEC write and signalling kind of its rule. -/

namespace Sys2Proof.Machine

/-- `V_CMP_F_F64` (42_vcmp_f64.md R232). -/
def execVCmpFF64 (form : Form) (s : State) : Outcome := compareF64 .f false .sNaNOnly form s

/-- `V_CMP_LT_F64` (42_vcmp_f64.md R233). -/
def execVCmpLtF64 (form : Form) (s : State) : Outcome := compareF64 .lt false .sNaNOnly form s

/-- `V_CMP_EQ_F64` (42_vcmp_f64.md R234). -/
def execVCmpEqF64 (form : Form) (s : State) : Outcome := compareF64 .eq false .sNaNOnly form s

/-- `V_CMP_LE_F64` (42_vcmp_f64.md R235). -/
def execVCmpLeF64 (form : Form) (s : State) : Outcome := compareF64 .le false .sNaNOnly form s

/-- `V_CMP_GT_F64` (42_vcmp_f64.md R236). -/
def execVCmpGtF64 (form : Form) (s : State) : Outcome := compareF64 .gt false .sNaNOnly form s

/-- `V_CMP_LG_F64` (42_vcmp_f64.md R237). -/
def execVCmpLgF64 (form : Form) (s : State) : Outcome := compareF64 .lg false .sNaNOnly form s

/-- `V_CMP_GE_F64` (42_vcmp_f64.md R238). -/
def execVCmpGeF64 (form : Form) (s : State) : Outcome := compareF64 .ge false .sNaNOnly form s

/-- `V_CMP_O_F64` (42_vcmp_f64.md R239). -/
def execVCmpOF64 (form : Form) (s : State) : Outcome := compareF64 .o false .sNaNOnly form s

/-- `V_CMP_U_F64` (42_vcmp_f64.md R240). -/
def execVCmpUF64 (form : Form) (s : State) : Outcome := compareF64 .u false .sNaNOnly form s

/-- `V_CMP_NGE_F64` (42_vcmp_f64.md R241). -/
def execVCmpNgeF64 (form : Form) (s : State) : Outcome := compareF64 .nge false .sNaNOnly form s

/-- `V_CMP_NLG_F64` (42_vcmp_f64.md R242). -/
def execVCmpNlgF64 (form : Form) (s : State) : Outcome := compareF64 .nlg false .sNaNOnly form s

/-- `V_CMP_NGT_F64` (42_vcmp_f64.md R243). -/
def execVCmpNgtF64 (form : Form) (s : State) : Outcome := compareF64 .ngt false .sNaNOnly form s

/-- `V_CMP_NLE_F64` (42_vcmp_f64.md R244). -/
def execVCmpNleF64 (form : Form) (s : State) : Outcome := compareF64 .nle false .sNaNOnly form s

/-- `V_CMP_NEQ_F64` (42_vcmp_f64.md R245). -/
def execVCmpNeqF64 (form : Form) (s : State) : Outcome := compareF64 .neq false .sNaNOnly form s

/-- `V_CMP_NLT_F64` (42_vcmp_f64.md R246). -/
def execVCmpNltF64 (form : Form) (s : State) : Outcome := compareF64 .nlt false .sNaNOnly form s

/-- `V_CMP_T_F64` (42_vcmp_f64.md R247). -/
def execVCmpTF64 (form : Form) (s : State) : Outcome := compareF64 .t false .sNaNOnly form s

end Sys2Proof.Machine
end

