-- ==== Sys2Proof/Machine/VcmpI32.lean ====
section
/-! DEFINITION. The signed 32-bit integer compares, opcodes 0x80-0x87 and 0x90-0x97 (45_vcmp_i32.md). Each meaning is the step of 40_vopc_common.md R120 with
the type, operation, EXEC write and signalling kind of its rule. -/

namespace Sys2Proof.Machine

/-- `V_CMP_F_I32` (45_vcmp_i32.md R328). -/
def execVCmpFI32 (form : Form) (s : State) : Outcome := compareSigned .b32 .f false form s

/-- `V_CMP_LT_I32` (45_vcmp_i32.md R329). -/
def execVCmpLtI32 (form : Form) (s : State) : Outcome := compareSigned .b32 .lt false form s

/-- `V_CMP_EQ_I32` (45_vcmp_i32.md R330). -/
def execVCmpEqI32 (form : Form) (s : State) : Outcome := compareSigned .b32 .eq false form s

/-- `V_CMP_LE_I32` (45_vcmp_i32.md R331). -/
def execVCmpLeI32 (form : Form) (s : State) : Outcome := compareSigned .b32 .le false form s

/-- `V_CMP_GT_I32` (45_vcmp_i32.md R332). -/
def execVCmpGtI32 (form : Form) (s : State) : Outcome := compareSigned .b32 .gt false form s

/-- `V_CMP_LG_I32` (45_vcmp_i32.md R333). -/
def execVCmpLgI32 (form : Form) (s : State) : Outcome := compareSigned .b32 .lg false form s

/-- `V_CMP_GE_I32` (45_vcmp_i32.md R334). -/
def execVCmpGeI32 (form : Form) (s : State) : Outcome := compareSigned .b32 .ge false form s

/-- `V_CMP_T_I32` (45_vcmp_i32.md R335). -/
def execVCmpTI32 (form : Form) (s : State) : Outcome := compareSigned .b32 .t false form s

/-- `V_CMPX_F_I32` (45_vcmp_i32.md R344). -/
def execVCmpxFI32 (form : Form) (s : State) : Outcome := compareSigned .b32 .f true form s

/-- `V_CMPX_LT_I32` (45_vcmp_i32.md R345). -/
def execVCmpxLtI32 (form : Form) (s : State) : Outcome := compareSigned .b32 .lt true form s

/-- `V_CMPX_EQ_I32` (45_vcmp_i32.md R346). -/
def execVCmpxEqI32 (form : Form) (s : State) : Outcome := compareSigned .b32 .eq true form s

/-- `V_CMPX_LE_I32` (45_vcmp_i32.md R347). -/
def execVCmpxLeI32 (form : Form) (s : State) : Outcome := compareSigned .b32 .le true form s

/-- `V_CMPX_GT_I32` (45_vcmp_i32.md R348). -/
def execVCmpxGtI32 (form : Form) (s : State) : Outcome := compareSigned .b32 .gt true form s

/-- `V_CMPX_LG_I32` (45_vcmp_i32.md R349). -/
def execVCmpxLgI32 (form : Form) (s : State) : Outcome := compareSigned .b32 .lg true form s

/-- `V_CMPX_GE_I32` (45_vcmp_i32.md R350). -/
def execVCmpxGeI32 (form : Form) (s : State) : Outcome := compareSigned .b32 .ge true form s

/-- `V_CMPX_T_I32` (45_vcmp_i32.md R351). -/
def execVCmpxTI32 (form : Form) (s : State) : Outcome := compareSigned .b32 .t true form s

end Sys2Proof.Machine
end

