-- ==== Sys2Proof/Machine/VcmpI64.lean ====
section
/-! DEFINITION. The signed 64-bit integer compares, opcodes 0xA0-0xA7 and 0xB0-0xB7 (45_vcmp_i64.md). Each meaning is the step of 40_vopc_common.md R120 with
the type, operation, EXEC write and signalling kind of its rule. -/

namespace Sys2Proof.Machine

/-- `V_CMP_F_I64` (45_vcmp_i64.md R360). -/
def execVCmpFI64 (form : Form) (s : State) : Outcome := compareSigned .b64 .f false form s

/-- `V_CMP_LT_I64` (45_vcmp_i64.md R361). -/
def execVCmpLtI64 (form : Form) (s : State) : Outcome := compareSigned .b64 .lt false form s

/-- `V_CMP_EQ_I64` (45_vcmp_i64.md R362). -/
def execVCmpEqI64 (form : Form) (s : State) : Outcome := compareSigned .b64 .eq false form s

/-- `V_CMP_LE_I64` (45_vcmp_i64.md R363). -/
def execVCmpLeI64 (form : Form) (s : State) : Outcome := compareSigned .b64 .le false form s

/-- `V_CMP_GT_I64` (45_vcmp_i64.md R364). -/
def execVCmpGtI64 (form : Form) (s : State) : Outcome := compareSigned .b64 .gt false form s

/-- `V_CMP_LG_I64` (45_vcmp_i64.md R365). -/
def execVCmpLgI64 (form : Form) (s : State) : Outcome := compareSigned .b64 .lg false form s

/-- `V_CMP_GE_I64` (45_vcmp_i64.md R366). -/
def execVCmpGeI64 (form : Form) (s : State) : Outcome := compareSigned .b64 .ge false form s

/-- `V_CMP_T_I64` (45_vcmp_i64.md R367). -/
def execVCmpTI64 (form : Form) (s : State) : Outcome := compareSigned .b64 .t false form s

/-- `V_CMPX_F_I64` (45_vcmp_i64.md R376). -/
def execVCmpxFI64 (form : Form) (s : State) : Outcome := compareSigned .b64 .f true form s

/-- `V_CMPX_LT_I64` (45_vcmp_i64.md R377). -/
def execVCmpxLtI64 (form : Form) (s : State) : Outcome := compareSigned .b64 .lt true form s

/-- `V_CMPX_EQ_I64` (45_vcmp_i64.md R378). -/
def execVCmpxEqI64 (form : Form) (s : State) : Outcome := compareSigned .b64 .eq true form s

/-- `V_CMPX_LE_I64` (45_vcmp_i64.md R379). -/
def execVCmpxLeI64 (form : Form) (s : State) : Outcome := compareSigned .b64 .le true form s

/-- `V_CMPX_GT_I64` (45_vcmp_i64.md R380). -/
def execVCmpxGtI64 (form : Form) (s : State) : Outcome := compareSigned .b64 .gt true form s

/-- `V_CMPX_LG_I64` (45_vcmp_i64.md R381). -/
def execVCmpxLgI64 (form : Form) (s : State) : Outcome := compareSigned .b64 .lg true form s

/-- `V_CMPX_GE_I64` (45_vcmp_i64.md R382). -/
def execVCmpxGeI64 (form : Form) (s : State) : Outcome := compareSigned .b64 .ge true form s

/-- `V_CMPX_T_I64` (45_vcmp_i64.md R383). -/
def execVCmpxTI64 (form : Form) (s : State) : Outcome := compareSigned .b64 .t true form s

end Sys2Proof.Machine
end

