-- ==== Sys2Proof/Machine/VcmpU32.lean ====
section
/-! DEFINITION. The unsigned 32-bit integer compares, opcodes 0xC0-0xC7 and 0xD0-0xD7 (46_vcmp_u32.md). Each meaning is the step of 40_vopc_common.md R120 with
the type, operation, EXEC write and signalling kind of its rule. -/

namespace Sys2Proof.Machine

/-- `V_CMP_F_U32` (46_vcmp_u32.md R392). -/
def execVCmpFU32 (form : Form) (s : State) : Outcome := compareUnsigned .b32 .f false form s

/-- `V_CMP_LT_U32` (46_vcmp_u32.md R393). -/
def execVCmpLtU32 (form : Form) (s : State) : Outcome := compareUnsigned .b32 .lt false form s

/-- `V_CMP_EQ_U32` (46_vcmp_u32.md R394). -/
def execVCmpEqU32 (form : Form) (s : State) : Outcome := compareUnsigned .b32 .eq false form s

/-- `V_CMP_LE_U32` (46_vcmp_u32.md R395). -/
def execVCmpLeU32 (form : Form) (s : State) : Outcome := compareUnsigned .b32 .le false form s

/-- `V_CMP_GT_U32` (46_vcmp_u32.md R396). -/
def execVCmpGtU32 (form : Form) (s : State) : Outcome := compareUnsigned .b32 .gt false form s

/-- `V_CMP_LG_U32` (46_vcmp_u32.md R397). -/
def execVCmpLgU32 (form : Form) (s : State) : Outcome := compareUnsigned .b32 .lg false form s

/-- `V_CMP_GE_U32` (46_vcmp_u32.md R398). -/
def execVCmpGeU32 (form : Form) (s : State) : Outcome := compareUnsigned .b32 .ge false form s

/-- `V_CMP_T_U32` (46_vcmp_u32.md R399). -/
def execVCmpTU32 (form : Form) (s : State) : Outcome := compareUnsigned .b32 .t false form s

/-- `V_CMPX_F_U32` (46_vcmp_u32.md R408). -/
def execVCmpxFU32 (form : Form) (s : State) : Outcome := compareUnsigned .b32 .f true form s

/-- `V_CMPX_LT_U32` (46_vcmp_u32.md R409). -/
def execVCmpxLtU32 (form : Form) (s : State) : Outcome := compareUnsigned .b32 .lt true form s

/-- `V_CMPX_EQ_U32` (46_vcmp_u32.md R410). -/
def execVCmpxEqU32 (form : Form) (s : State) : Outcome := compareUnsigned .b32 .eq true form s

/-- `V_CMPX_LE_U32` (46_vcmp_u32.md R411). -/
def execVCmpxLeU32 (form : Form) (s : State) : Outcome := compareUnsigned .b32 .le true form s

/-- `V_CMPX_GT_U32` (46_vcmp_u32.md R412). -/
def execVCmpxGtU32 (form : Form) (s : State) : Outcome := compareUnsigned .b32 .gt true form s

/-- `V_CMPX_LG_U32` (46_vcmp_u32.md R413). -/
def execVCmpxLgU32 (form : Form) (s : State) : Outcome := compareUnsigned .b32 .lg true form s

/-- `V_CMPX_GE_U32` (46_vcmp_u32.md R414). -/
def execVCmpxGeU32 (form : Form) (s : State) : Outcome := compareUnsigned .b32 .ge true form s

/-- `V_CMPX_T_U32` (46_vcmp_u32.md R415). -/
def execVCmpxTU32 (form : Form) (s : State) : Outcome := compareUnsigned .b32 .t true form s

end Sys2Proof.Machine
end

