-- ==== Sys2Proof/Machine/VcmpU64.lean ====
section
/-! DEFINITION. The unsigned 64-bit integer compares, opcodes 0xE0-0xE7 and 0xF0-0xF7 (46_vcmp_u64.md). Each meaning is the step of 40_vopc_common.md R120 with
the type, operation, EXEC write and signalling kind of its rule. -/

namespace Sys2Proof.Machine

/-- `V_CMP_F_U64` (46_vcmp_u64.md R424). -/
def execVCmpFU64 (form : Form) (s : State) : Outcome := compareUnsigned .b64 .f false form s

/-- `V_CMP_LT_U64` (46_vcmp_u64.md R425). -/
def execVCmpLtU64 (form : Form) (s : State) : Outcome := compareUnsigned .b64 .lt false form s

/-- `V_CMP_EQ_U64` (46_vcmp_u64.md R426). -/
def execVCmpEqU64 (form : Form) (s : State) : Outcome := compareUnsigned .b64 .eq false form s

/-- `V_CMP_LE_U64` (46_vcmp_u64.md R427). -/
def execVCmpLeU64 (form : Form) (s : State) : Outcome := compareUnsigned .b64 .le false form s

/-- `V_CMP_GT_U64` (46_vcmp_u64.md R428). -/
def execVCmpGtU64 (form : Form) (s : State) : Outcome := compareUnsigned .b64 .gt false form s

/-- `V_CMP_LG_U64` (46_vcmp_u64.md R429). -/
def execVCmpLgU64 (form : Form) (s : State) : Outcome := compareUnsigned .b64 .lg false form s

/-- `V_CMP_GE_U64` (46_vcmp_u64.md R430). -/
def execVCmpGeU64 (form : Form) (s : State) : Outcome := compareUnsigned .b64 .ge false form s

/-- `V_CMP_T_U64` (46_vcmp_u64.md R431). -/
def execVCmpTU64 (form : Form) (s : State) : Outcome := compareUnsigned .b64 .t false form s

/-- `V_CMPX_F_U64` (46_vcmp_u64.md R440). -/
def execVCmpxFU64 (form : Form) (s : State) : Outcome := compareUnsigned .b64 .f true form s

/-- `V_CMPX_LT_U64` (46_vcmp_u64.md R441). -/
def execVCmpxLtU64 (form : Form) (s : State) : Outcome := compareUnsigned .b64 .lt true form s

/-- `V_CMPX_EQ_U64` (46_vcmp_u64.md R442). -/
def execVCmpxEqU64 (form : Form) (s : State) : Outcome := compareUnsigned .b64 .eq true form s

/-- `V_CMPX_LE_U64` (46_vcmp_u64.md R443). -/
def execVCmpxLeU64 (form : Form) (s : State) : Outcome := compareUnsigned .b64 .le true form s

/-- `V_CMPX_GT_U64` (46_vcmp_u64.md R444). -/
def execVCmpxGtU64 (form : Form) (s : State) : Outcome := compareUnsigned .b64 .gt true form s

/-- `V_CMPX_LG_U64` (46_vcmp_u64.md R445). -/
def execVCmpxLgU64 (form : Form) (s : State) : Outcome := compareUnsigned .b64 .lg true form s

/-- `V_CMPX_GE_U64` (46_vcmp_u64.md R446). -/
def execVCmpxGeU64 (form : Form) (s : State) : Outcome := compareUnsigned .b64 .ge true form s

/-- `V_CMPX_T_U64` (46_vcmp_u64.md R447). -/
def execVCmpxTU64 (form : Form) (s : State) : Outcome := compareUnsigned .b64 .t true form s

end Sys2Proof.Machine
end

