-- ==== Sys2Proof/Machine/VcmpsF32.lean ====
section
/-! DEFINITION. The V_CMPS signalling single-precision compares, opcodes 0x40-0x4F (43_vcmps_f32.md). Each meaning is the step of 40_vopc_common.md R120 with
the type, operation, EXEC write and signalling kind of its rule. -/

namespace Sys2Proof.Machine

/-- `V_CMPS_F_F32` (43_vcmps_f32.md R264). -/
def execVCmpsFF32 (form : Form) (s : State) : Outcome := compareF32 .f false .anyNaN form s

/-- `V_CMPS_LT_F32` (43_vcmps_f32.md R265). -/
def execVCmpsLtF32 (form : Form) (s : State) : Outcome := compareF32 .lt false .anyNaN form s

/-- `V_CMPS_EQ_F32` (43_vcmps_f32.md R266). -/
def execVCmpsEqF32 (form : Form) (s : State) : Outcome := compareF32 .eq false .anyNaN form s

/-- `V_CMPS_LE_F32` (43_vcmps_f32.md R267). -/
def execVCmpsLeF32 (form : Form) (s : State) : Outcome := compareF32 .le false .anyNaN form s

/-- `V_CMPS_GT_F32` (43_vcmps_f32.md R268). -/
def execVCmpsGtF32 (form : Form) (s : State) : Outcome := compareF32 .gt false .anyNaN form s

/-- `V_CMPS_LG_F32` (43_vcmps_f32.md R269). -/
def execVCmpsLgF32 (form : Form) (s : State) : Outcome := compareF32 .lg false .anyNaN form s

/-- `V_CMPS_GE_F32` (43_vcmps_f32.md R270). -/
def execVCmpsGeF32 (form : Form) (s : State) : Outcome := compareF32 .ge false .anyNaN form s

/-- `V_CMPS_O_F32` (43_vcmps_f32.md R271). -/
def execVCmpsOF32 (form : Form) (s : State) : Outcome := compareF32 .o false .anyNaN form s

/-- `V_CMPS_U_F32` (43_vcmps_f32.md R272). -/
def execVCmpsUF32 (form : Form) (s : State) : Outcome := compareF32 .u false .anyNaN form s

/-- `V_CMPS_NGE_F32` (43_vcmps_f32.md R273). -/
def execVCmpsNgeF32 (form : Form) (s : State) : Outcome := compareF32 .nge false .anyNaN form s

/-- `V_CMPS_NLG_F32` (43_vcmps_f32.md R274). -/
def execVCmpsNlgF32 (form : Form) (s : State) : Outcome := compareF32 .nlg false .anyNaN form s

/-- `V_CMPS_NGT_F32` (43_vcmps_f32.md R275). -/
def execVCmpsNgtF32 (form : Form) (s : State) : Outcome := compareF32 .ngt false .anyNaN form s

/-- `V_CMPS_NLE_F32` (43_vcmps_f32.md R276). -/
def execVCmpsNleF32 (form : Form) (s : State) : Outcome := compareF32 .nle false .anyNaN form s

/-- `V_CMPS_NEQ_F32` (43_vcmps_f32.md R277). -/
def execVCmpsNeqF32 (form : Form) (s : State) : Outcome := compareF32 .neq false .anyNaN form s

/-- `V_CMPS_NLT_F32` (43_vcmps_f32.md R278). -/
def execVCmpsNltF32 (form : Form) (s : State) : Outcome := compareF32 .nlt false .anyNaN form s

/-- `V_CMPS_T_F32` (43_vcmps_f32.md R279). -/
def execVCmpsTF32 (form : Form) (s : State) : Outcome := compareF32 .t false .anyNaN form s

end Sys2Proof.Machine
end

