-- ==== Sys2Proof/Machine/VcmpsF64.lean ====
section
/-! DEFINITION. The V_CMPS signalling double-precision compares, opcodes 0x60-0x6F (44_vcmps_f64.md). Each meaning is the step of 40_vopc_common.md R120 with
the type, operation, EXEC write and signalling kind of its rule. -/

namespace Sys2Proof.Machine

/-- `V_CMPS_F_F64` (44_vcmps_f64.md R296). -/
def execVCmpsFF64 (form : Form) (s : State) : Outcome := compareF64 .f false .anyNaN form s

/-- `V_CMPS_LT_F64` (44_vcmps_f64.md R297). -/
def execVCmpsLtF64 (form : Form) (s : State) : Outcome := compareF64 .lt false .anyNaN form s

/-- `V_CMPS_EQ_F64` (44_vcmps_f64.md R298). -/
def execVCmpsEqF64 (form : Form) (s : State) : Outcome := compareF64 .eq false .anyNaN form s

/-- `V_CMPS_LE_F64` (44_vcmps_f64.md R299). -/
def execVCmpsLeF64 (form : Form) (s : State) : Outcome := compareF64 .le false .anyNaN form s

/-- `V_CMPS_GT_F64` (44_vcmps_f64.md R300). -/
def execVCmpsGtF64 (form : Form) (s : State) : Outcome := compareF64 .gt false .anyNaN form s

/-- `V_CMPS_LG_F64` (44_vcmps_f64.md R301). -/
def execVCmpsLgF64 (form : Form) (s : State) : Outcome := compareF64 .lg false .anyNaN form s

/-- `V_CMPS_GE_F64` (44_vcmps_f64.md R302). -/
def execVCmpsGeF64 (form : Form) (s : State) : Outcome := compareF64 .ge false .anyNaN form s

/-- `V_CMPS_O_F64` (44_vcmps_f64.md R303). -/
def execVCmpsOF64 (form : Form) (s : State) : Outcome := compareF64 .o false .anyNaN form s

/-- `V_CMPS_U_F64` (44_vcmps_f64.md R304). -/
def execVCmpsUF64 (form : Form) (s : State) : Outcome := compareF64 .u false .anyNaN form s

/-- `V_CMPS_NGE_F64` (44_vcmps_f64.md R305). -/
def execVCmpsNgeF64 (form : Form) (s : State) : Outcome := compareF64 .nge false .anyNaN form s

/-- `V_CMPS_NLG_F64` (44_vcmps_f64.md R306). -/
def execVCmpsNlgF64 (form : Form) (s : State) : Outcome := compareF64 .nlg false .anyNaN form s

/-- `V_CMPS_NGT_F64` (44_vcmps_f64.md R307). -/
def execVCmpsNgtF64 (form : Form) (s : State) : Outcome := compareF64 .ngt false .anyNaN form s

/-- `V_CMPS_NLE_F64` (44_vcmps_f64.md R308). -/
def execVCmpsNleF64 (form : Form) (s : State) : Outcome := compareF64 .nle false .anyNaN form s

/-- `V_CMPS_NEQ_F64` (44_vcmps_f64.md R309). -/
def execVCmpsNeqF64 (form : Form) (s : State) : Outcome := compareF64 .neq false .anyNaN form s

/-- `V_CMPS_NLT_F64` (44_vcmps_f64.md R310). -/
def execVCmpsNltF64 (form : Form) (s : State) : Outcome := compareF64 .nlt false .anyNaN form s

/-- `V_CMPS_T_F64` (44_vcmps_f64.md R311). -/
def execVCmpsTF64 (form : Form) (s : State) : Outcome := compareF64 .t false .anyNaN form s

end Sys2Proof.Machine
end

