-- ==== Sys2Proof/Machine/VcmpsxF32.lean ====
section
/-! DEFINITION. The V_CMPSX signalling single-precision compares, opcodes 0x50-0x5F (43_vcmpsx_f32.md). Each meaning is the step of 40_vopc_common.md R120 with
the type, operation, EXEC write and signalling kind of its rule. -/

namespace Sys2Proof.Machine

/-- `V_CMPSX_F_F32` (43_vcmpsx_f32.md R280). -/
def execVCmpsxFF32 (form : Form) (s : State) : Outcome := compareF32 .f true .anyNaN form s

/-- `V_CMPSX_LT_F32` (43_vcmpsx_f32.md R281). -/
def execVCmpsxLtF32 (form : Form) (s : State) : Outcome := compareF32 .lt true .anyNaN form s

/-- `V_CMPSX_EQ_F32` (43_vcmpsx_f32.md R282). -/
def execVCmpsxEqF32 (form : Form) (s : State) : Outcome := compareF32 .eq true .anyNaN form s

/-- `V_CMPSX_LE_F32` (43_vcmpsx_f32.md R283). -/
def execVCmpsxLeF32 (form : Form) (s : State) : Outcome := compareF32 .le true .anyNaN form s

/-- `V_CMPSX_GT_F32` (43_vcmpsx_f32.md R284). -/
def execVCmpsxGtF32 (form : Form) (s : State) : Outcome := compareF32 .gt true .anyNaN form s

/-- `V_CMPSX_LG_F32` (43_vcmpsx_f32.md R285). -/
def execVCmpsxLgF32 (form : Form) (s : State) : Outcome := compareF32 .lg true .anyNaN form s

/-- `V_CMPSX_GE_F32` (43_vcmpsx_f32.md R286). -/
def execVCmpsxGeF32 (form : Form) (s : State) : Outcome := compareF32 .ge true .anyNaN form s

/-- `V_CMPSX_O_F32` (43_vcmpsx_f32.md R287). -/
def execVCmpsxOF32 (form : Form) (s : State) : Outcome := compareF32 .o true .anyNaN form s

/-- `V_CMPSX_U_F32` (43_vcmpsx_f32.md R288). -/
def execVCmpsxUF32 (form : Form) (s : State) : Outcome := compareF32 .u true .anyNaN form s

/-- `V_CMPSX_NGE_F32` (43_vcmpsx_f32.md R289). -/
def execVCmpsxNgeF32 (form : Form) (s : State) : Outcome := compareF32 .nge true .anyNaN form s

/-- `V_CMPSX_NLG_F32` (43_vcmpsx_f32.md R290). -/
def execVCmpsxNlgF32 (form : Form) (s : State) : Outcome := compareF32 .nlg true .anyNaN form s

/-- `V_CMPSX_NGT_F32` (43_vcmpsx_f32.md R291). -/
def execVCmpsxNgtF32 (form : Form) (s : State) : Outcome := compareF32 .ngt true .anyNaN form s

/-- `V_CMPSX_NLE_F32` (43_vcmpsx_f32.md R292). -/
def execVCmpsxNleF32 (form : Form) (s : State) : Outcome := compareF32 .nle true .anyNaN form s

/-- `V_CMPSX_NEQ_F32` (43_vcmpsx_f32.md R293). -/
def execVCmpsxNeqF32 (form : Form) (s : State) : Outcome := compareF32 .neq true .anyNaN form s

/-- `V_CMPSX_NLT_F32` (43_vcmpsx_f32.md R294). -/
def execVCmpsxNltF32 (form : Form) (s : State) : Outcome := compareF32 .nlt true .anyNaN form s

/-- `V_CMPSX_T_F32` (43_vcmpsx_f32.md R295). -/
def execVCmpsxTF32 (form : Form) (s : State) : Outcome := compareF32 .t true .anyNaN form s

end Sys2Proof.Machine
end

