-- ==== Sys2Proof/Machine/VcmpsxF64.lean ====
section
/-! DEFINITION. The V_CMPSX signalling double-precision compares, opcodes 0x70-0x7F (44_vcmpsx_f64.md). Each meaning is the step of 40_vopc_common.md R120 with
the type, operation, EXEC write and signalling kind of its rule. -/

namespace Sys2Proof.Machine

/-- `V_CMPSX_F_F64` (44_vcmpsx_f64.md R312). -/
def execVCmpsxFF64 (form : Form) (s : State) : Outcome := compareF64 .f true .anyNaN form s

/-- `V_CMPSX_LT_F64` (44_vcmpsx_f64.md R313). -/
def execVCmpsxLtF64 (form : Form) (s : State) : Outcome := compareF64 .lt true .anyNaN form s

/-- `V_CMPSX_EQ_F64` (44_vcmpsx_f64.md R314). -/
def execVCmpsxEqF64 (form : Form) (s : State) : Outcome := compareF64 .eq true .anyNaN form s

/-- `V_CMPSX_LE_F64` (44_vcmpsx_f64.md R315). -/
def execVCmpsxLeF64 (form : Form) (s : State) : Outcome := compareF64 .le true .anyNaN form s

/-- `V_CMPSX_GT_F64` (44_vcmpsx_f64.md R316). -/
def execVCmpsxGtF64 (form : Form) (s : State) : Outcome := compareF64 .gt true .anyNaN form s

/-- `V_CMPSX_LG_F64` (44_vcmpsx_f64.md R317). -/
def execVCmpsxLgF64 (form : Form) (s : State) : Outcome := compareF64 .lg true .anyNaN form s

/-- `V_CMPSX_GE_F64` (44_vcmpsx_f64.md R318). -/
def execVCmpsxGeF64 (form : Form) (s : State) : Outcome := compareF64 .ge true .anyNaN form s

/-- `V_CMPSX_O_F64` (44_vcmpsx_f64.md R319). -/
def execVCmpsxOF64 (form : Form) (s : State) : Outcome := compareF64 .o true .anyNaN form s

/-- `V_CMPSX_U_F64` (44_vcmpsx_f64.md R320). -/
def execVCmpsxUF64 (form : Form) (s : State) : Outcome := compareF64 .u true .anyNaN form s

/-- `V_CMPSX_NGE_F64` (44_vcmpsx_f64.md R321). -/
def execVCmpsxNgeF64 (form : Form) (s : State) : Outcome := compareF64 .nge true .anyNaN form s

/-- `V_CMPSX_NLG_F64` (44_vcmpsx_f64.md R322). -/
def execVCmpsxNlgF64 (form : Form) (s : State) : Outcome := compareF64 .nlg true .anyNaN form s

/-- `V_CMPSX_NGT_F64` (44_vcmpsx_f64.md R323). -/
def execVCmpsxNgtF64 (form : Form) (s : State) : Outcome := compareF64 .ngt true .anyNaN form s

/-- `V_CMPSX_NLE_F64` (44_vcmpsx_f64.md R324). -/
def execVCmpsxNleF64 (form : Form) (s : State) : Outcome := compareF64 .nle true .anyNaN form s

/-- `V_CMPSX_NEQ_F64` (44_vcmpsx_f64.md R325). -/
def execVCmpsxNeqF64 (form : Form) (s : State) : Outcome := compareF64 .neq true .anyNaN form s

/-- `V_CMPSX_NLT_F64` (44_vcmpsx_f64.md R326). -/
def execVCmpsxNltF64 (form : Form) (s : State) : Outcome := compareF64 .nlt true .anyNaN form s

/-- `V_CMPSX_T_F64` (44_vcmpsx_f64.md R327). -/
def execVCmpsxTF64 (form : Form) (s : State) : Outcome := compareF64 .t true .anyNaN form s

end Sys2Proof.Machine
end

