-- ==== Sys2Proof/Machine/VcmpxF32.lean ====
section
/-! DEFINITION. The V_CMPX single-precision compares, opcodes 0x10-0x1F (41_vcmpx_f32.md). Each meaning is the step of 40_vopc_common.md R120 with
the type, operation, EXEC write and signalling kind of its rule. -/

namespace Sys2Proof.Machine

/-- `V_CMPX_F_F32` (41_vcmpx_f32.md R216). -/
def execVCmpxFF32 (form : Form) (s : State) : Outcome := compareF32 .f true .sNaNOnly form s

/-- `V_CMPX_LT_F32` (41_vcmpx_f32.md R217). -/
def execVCmpxLtF32 (form : Form) (s : State) : Outcome := compareF32 .lt true .sNaNOnly form s

/-- `V_CMPX_EQ_F32` (41_vcmpx_f32.md R218). -/
def execVCmpxEqF32 (form : Form) (s : State) : Outcome := compareF32 .eq true .sNaNOnly form s

/-- `V_CMPX_LE_F32` (41_vcmpx_f32.md R219). -/
def execVCmpxLeF32 (form : Form) (s : State) : Outcome := compareF32 .le true .sNaNOnly form s

/-- `V_CMPX_GT_F32` (41_vcmpx_f32.md R220). -/
def execVCmpxGtF32 (form : Form) (s : State) : Outcome := compareF32 .gt true .sNaNOnly form s

/-- `V_CMPX_LG_F32` (41_vcmpx_f32.md R221). -/
def execVCmpxLgF32 (form : Form) (s : State) : Outcome := compareF32 .lg true .sNaNOnly form s

/-- `V_CMPX_GE_F32` (41_vcmpx_f32.md R222). -/
def execVCmpxGeF32 (form : Form) (s : State) : Outcome := compareF32 .ge true .sNaNOnly form s

/-- `V_CMPX_O_F32` (41_vcmpx_f32.md R223). -/
def execVCmpxOF32 (form : Form) (s : State) : Outcome := compareF32 .o true .sNaNOnly form s

/-- `V_CMPX_U_F32` (41_vcmpx_f32.md R224). -/
def execVCmpxUF32 (form : Form) (s : State) : Outcome := compareF32 .u true .sNaNOnly form s

/-- `V_CMPX_NGE_F32` (41_vcmpx_f32.md R225). -/
def execVCmpxNgeF32 (form : Form) (s : State) : Outcome := compareF32 .nge true .sNaNOnly form s

/-- `V_CMPX_NLG_F32` (41_vcmpx_f32.md R226). -/
def execVCmpxNlgF32 (form : Form) (s : State) : Outcome := compareF32 .nlg true .sNaNOnly form s

/-- `V_CMPX_NGT_F32` (41_vcmpx_f32.md R227). -/
def execVCmpxNgtF32 (form : Form) (s : State) : Outcome := compareF32 .ngt true .sNaNOnly form s

/-- `V_CMPX_NLE_F32` (41_vcmpx_f32.md R228). -/
def execVCmpxNleF32 (form : Form) (s : State) : Outcome := compareF32 .nle true .sNaNOnly form s

/-- `V_CMPX_NEQ_F32` (41_vcmpx_f32.md R229). -/
def execVCmpxNeqF32 (form : Form) (s : State) : Outcome := compareF32 .neq true .sNaNOnly form s

/-- `V_CMPX_NLT_F32` (41_vcmpx_f32.md R230). -/
def execVCmpxNltF32 (form : Form) (s : State) : Outcome := compareF32 .nlt true .sNaNOnly form s

/-- `V_CMPX_T_F32` (41_vcmpx_f32.md R231). -/
def execVCmpxTF32 (form : Form) (s : State) : Outcome := compareF32 .t true .sNaNOnly form s

end Sys2Proof.Machine
end

