-- ==== Sys2Proof/Machine/VcmpxF64.lean ====
section
/-! DEFINITION. The V_CMPX double-precision compares, opcodes 0x30-0x3F (42_vcmpx_f64.md). Each meaning is the step of 40_vopc_common.md R120 with
the type, operation, EXEC write and signalling kind of its rule. -/

namespace Sys2Proof.Machine

/-- `V_CMPX_F_F64` (42_vcmpx_f64.md R248). -/
def execVCmpxFF64 (form : Form) (s : State) : Outcome := compareF64 .f true .sNaNOnly form s

/-- `V_CMPX_LT_F64` (42_vcmpx_f64.md R249). -/
def execVCmpxLtF64 (form : Form) (s : State) : Outcome := compareF64 .lt true .sNaNOnly form s

/-- `V_CMPX_EQ_F64` (42_vcmpx_f64.md R250). -/
def execVCmpxEqF64 (form : Form) (s : State) : Outcome := compareF64 .eq true .sNaNOnly form s

/-- `V_CMPX_LE_F64` (42_vcmpx_f64.md R251). -/
def execVCmpxLeF64 (form : Form) (s : State) : Outcome := compareF64 .le true .sNaNOnly form s

/-- `V_CMPX_GT_F64` (42_vcmpx_f64.md R252). -/
def execVCmpxGtF64 (form : Form) (s : State) : Outcome := compareF64 .gt true .sNaNOnly form s

/-- `V_CMPX_LG_F64` (42_vcmpx_f64.md R253). -/
def execVCmpxLgF64 (form : Form) (s : State) : Outcome := compareF64 .lg true .sNaNOnly form s

/-- `V_CMPX_GE_F64` (42_vcmpx_f64.md R254). -/
def execVCmpxGeF64 (form : Form) (s : State) : Outcome := compareF64 .ge true .sNaNOnly form s

/-- `V_CMPX_O_F64` (42_vcmpx_f64.md R255). -/
def execVCmpxOF64 (form : Form) (s : State) : Outcome := compareF64 .o true .sNaNOnly form s

/-- `V_CMPX_U_F64` (42_vcmpx_f64.md R256). -/
def execVCmpxUF64 (form : Form) (s : State) : Outcome := compareF64 .u true .sNaNOnly form s

/-- `V_CMPX_NGE_F64` (42_vcmpx_f64.md R257). -/
def execVCmpxNgeF64 (form : Form) (s : State) : Outcome := compareF64 .nge true .sNaNOnly form s

/-- `V_CMPX_NLG_F64` (42_vcmpx_f64.md R258). -/
def execVCmpxNlgF64 (form : Form) (s : State) : Outcome := compareF64 .nlg true .sNaNOnly form s

/-- `V_CMPX_NGT_F64` (42_vcmpx_f64.md R259). -/
def execVCmpxNgtF64 (form : Form) (s : State) : Outcome := compareF64 .ngt true .sNaNOnly form s

/-- `V_CMPX_NLE_F64` (42_vcmpx_f64.md R260). -/
def execVCmpxNleF64 (form : Form) (s : State) : Outcome := compareF64 .nle true .sNaNOnly form s

/-- `V_CMPX_NEQ_F64` (42_vcmpx_f64.md R261). -/
def execVCmpxNeqF64 (form : Form) (s : State) : Outcome := compareF64 .neq true .sNaNOnly form s

/-- `V_CMPX_NLT_F64` (42_vcmpx_f64.md R262). -/
def execVCmpxNltF64 (form : Form) (s : State) : Outcome := compareF64 .nlt true .sNaNOnly form s

/-- `V_CMPX_T_F64` (42_vcmpx_f64.md R263). -/
def execVCmpxTF64 (form : Form) (s : State) : Outcome := compareF64 .t true .sNaNOnly form s

end Sys2Proof.Machine
end

