-- ==== Sys2Proof/Machine/Dispatch.lean ====
section
/-! DEFINITION. The meaning of every instruction, one arm per constructor (30_encoding.md R93). -/

namespace Sys2Proof.Machine

def exec (i : Instr) (s : State) : Host.Outcome State Fault Refusal :=
  match i with
  | .vCmpFF32 form => Sys2Proof.Machine.execVCmpFF32 form s
  | .vCmpLtF32 form => Sys2Proof.Machine.execVCmpLtF32 form s
  | .vCmpEqF32 form => Sys2Proof.Machine.execVCmpEqF32 form s
  | .vCmpLeF32 form => Sys2Proof.Machine.execVCmpLeF32 form s
  | .vCmpGtF32 form => Sys2Proof.Machine.execVCmpGtF32 form s
  | .vCmpLgF32 form => Sys2Proof.Machine.execVCmpLgF32 form s
  | .vCmpGeF32 form => Sys2Proof.Machine.execVCmpGeF32 form s
  | .vCmpOF32 form => Sys2Proof.Machine.execVCmpOF32 form s
  | .vCmpUF32 form => Sys2Proof.Machine.execVCmpUF32 form s
  | .vCmpNgeF32 form => Sys2Proof.Machine.execVCmpNgeF32 form s
  | .vCmpNlgF32 form => Sys2Proof.Machine.execVCmpNlgF32 form s
  | .vCmpNgtF32 form => Sys2Proof.Machine.execVCmpNgtF32 form s
  | .vCmpNleF32 form => Sys2Proof.Machine.execVCmpNleF32 form s
  | .vCmpNeqF32 form => Sys2Proof.Machine.execVCmpNeqF32 form s
  | .vCmpNltF32 form => Sys2Proof.Machine.execVCmpNltF32 form s
  | .vCmpTF32 form => Sys2Proof.Machine.execVCmpTF32 form s
  | .vCmpxFF32 form => Sys2Proof.Machine.execVCmpxFF32 form s
  | .vCmpxLtF32 form => Sys2Proof.Machine.execVCmpxLtF32 form s
  | .vCmpxEqF32 form => Sys2Proof.Machine.execVCmpxEqF32 form s
  | .vCmpxLeF32 form => Sys2Proof.Machine.execVCmpxLeF32 form s
  | .vCmpxGtF32 form => Sys2Proof.Machine.execVCmpxGtF32 form s
  | .vCmpxLgF32 form => Sys2Proof.Machine.execVCmpxLgF32 form s
  | .vCmpxGeF32 form => Sys2Proof.Machine.execVCmpxGeF32 form s
  | .vCmpxOF32 form => Sys2Proof.Machine.execVCmpxOF32 form s
  | .vCmpxUF32 form => Sys2Proof.Machine.execVCmpxUF32 form s
  | .vCmpxNgeF32 form => Sys2Proof.Machine.execVCmpxNgeF32 form s
  | .vCmpxNlgF32 form => Sys2Proof.Machine.execVCmpxNlgF32 form s
  | .vCmpxNgtF32 form => Sys2Proof.Machine.execVCmpxNgtF32 form s
  | .vCmpxNleF32 form => Sys2Proof.Machine.execVCmpxNleF32 form s
  | .vCmpxNeqF32 form => Sys2Proof.Machine.execVCmpxNeqF32 form s
  | .vCmpxNltF32 form => Sys2Proof.Machine.execVCmpxNltF32 form s
  | .vCmpxTF32 form => Sys2Proof.Machine.execVCmpxTF32 form s
  | .vCmpFF64 form => Sys2Proof.Machine.execVCmpFF64 form s
  | .vCmpLtF64 form => Sys2Proof.Machine.execVCmpLtF64 form s
  | .vCmpEqF64 form => Sys2Proof.Machine.execVCmpEqF64 form s
  | .vCmpLeF64 form => Sys2Proof.Machine.execVCmpLeF64 form s
  | .vCmpGtF64 form => Sys2Proof.Machine.execVCmpGtF64 form s
  | .vCmpLgF64 form => Sys2Proof.Machine.execVCmpLgF64 form s
  | .vCmpGeF64 form => Sys2Proof.Machine.execVCmpGeF64 form s
  | .vCmpOF64 form => Sys2Proof.Machine.execVCmpOF64 form s
  | .vCmpUF64 form => Sys2Proof.Machine.execVCmpUF64 form s
  | .vCmpNgeF64 form => Sys2Proof.Machine.execVCmpNgeF64 form s
  | .vCmpNlgF64 form => Sys2Proof.Machine.execVCmpNlgF64 form s
  | .vCmpNgtF64 form => Sys2Proof.Machine.execVCmpNgtF64 form s
  | .vCmpNleF64 form => Sys2Proof.Machine.execVCmpNleF64 form s
  | .vCmpNeqF64 form => Sys2Proof.Machine.execVCmpNeqF64 form s
  | .vCmpNltF64 form => Sys2Proof.Machine.execVCmpNltF64 form s
  | .vCmpTF64 form => Sys2Proof.Machine.execVCmpTF64 form s
  | .vCmpxFF64 form => Sys2Proof.Machine.execVCmpxFF64 form s
  | .vCmpxLtF64 form => Sys2Proof.Machine.execVCmpxLtF64 form s
  | .vCmpxEqF64 form => Sys2Proof.Machine.execVCmpxEqF64 form s
  | .vCmpxLeF64 form => Sys2Proof.Machine.execVCmpxLeF64 form s
  | .vCmpxGtF64 form => Sys2Proof.Machine.execVCmpxGtF64 form s
  | .vCmpxLgF64 form => Sys2Proof.Machine.execVCmpxLgF64 form s
  | .vCmpxGeF64 form => Sys2Proof.Machine.execVCmpxGeF64 form s
  | .vCmpxOF64 form => Sys2Proof.Machine.execVCmpxOF64 form s
  | .vCmpxUF64 form => Sys2Proof.Machine.execVCmpxUF64 form s
  | .vCmpxNgeF64 form => Sys2Proof.Machine.execVCmpxNgeF64 form s
  | .vCmpxNlgF64 form => Sys2Proof.Machine.execVCmpxNlgF64 form s
  | .vCmpxNgtF64 form => Sys2Proof.Machine.execVCmpxNgtF64 form s
  | .vCmpxNleF64 form => Sys2Proof.Machine.execVCmpxNleF64 form s
  | .vCmpxNeqF64 form => Sys2Proof.Machine.execVCmpxNeqF64 form s
  | .vCmpxNltF64 form => Sys2Proof.Machine.execVCmpxNltF64 form s
  | .vCmpxTF64 form => Sys2Proof.Machine.execVCmpxTF64 form s
  | .vCmpsFF32 form => Sys2Proof.Machine.execVCmpsFF32 form s
  | .vCmpsLtF32 form => Sys2Proof.Machine.execVCmpsLtF32 form s
  | .vCmpsEqF32 form => Sys2Proof.Machine.execVCmpsEqF32 form s
  | .vCmpsLeF32 form => Sys2Proof.Machine.execVCmpsLeF32 form s
  | .vCmpsGtF32 form => Sys2Proof.Machine.execVCmpsGtF32 form s
  | .vCmpsLgF32 form => Sys2Proof.Machine.execVCmpsLgF32 form s
  | .vCmpsGeF32 form => Sys2Proof.Machine.execVCmpsGeF32 form s
  | .vCmpsOF32 form => Sys2Proof.Machine.execVCmpsOF32 form s
  | .vCmpsUF32 form => Sys2Proof.Machine.execVCmpsUF32 form s
  | .vCmpsNgeF32 form => Sys2Proof.Machine.execVCmpsNgeF32 form s
  | .vCmpsNlgF32 form => Sys2Proof.Machine.execVCmpsNlgF32 form s
  | .vCmpsNgtF32 form => Sys2Proof.Machine.execVCmpsNgtF32 form s
  | .vCmpsNleF32 form => Sys2Proof.Machine.execVCmpsNleF32 form s
  | .vCmpsNeqF32 form => Sys2Proof.Machine.execVCmpsNeqF32 form s
  | .vCmpsNltF32 form => Sys2Proof.Machine.execVCmpsNltF32 form s
  | .vCmpsTF32 form => Sys2Proof.Machine.execVCmpsTF32 form s
  | .vCmpsxFF32 form => Sys2Proof.Machine.execVCmpsxFF32 form s
  | .vCmpsxLtF32 form => Sys2Proof.Machine.execVCmpsxLtF32 form s
  | .vCmpsxEqF32 form => Sys2Proof.Machine.execVCmpsxEqF32 form s
  | .vCmpsxLeF32 form => Sys2Proof.Machine.execVCmpsxLeF32 form s
  | .vCmpsxGtF32 form => Sys2Proof.Machine.execVCmpsxGtF32 form s
  | .vCmpsxLgF32 form => Sys2Proof.Machine.execVCmpsxLgF32 form s
  | .vCmpsxGeF32 form => Sys2Proof.Machine.execVCmpsxGeF32 form s
  | .vCmpsxOF32 form => Sys2Proof.Machine.execVCmpsxOF32 form s
  | .vCmpsxUF32 form => Sys2Proof.Machine.execVCmpsxUF32 form s
  | .vCmpsxNgeF32 form => Sys2Proof.Machine.execVCmpsxNgeF32 form s
  | .vCmpsxNlgF32 form => Sys2Proof.Machine.execVCmpsxNlgF32 form s
  | .vCmpsxNgtF32 form => Sys2Proof.Machine.execVCmpsxNgtF32 form s
  | .vCmpsxNleF32 form => Sys2Proof.Machine.execVCmpsxNleF32 form s
  | .vCmpsxNeqF32 form => Sys2Proof.Machine.execVCmpsxNeqF32 form s
  | .vCmpsxNltF32 form => Sys2Proof.Machine.execVCmpsxNltF32 form s
  | .vCmpsxTF32 form => Sys2Proof.Machine.execVCmpsxTF32 form s
  | .vCmpsFF64 form => Sys2Proof.Machine.execVCmpsFF64 form s
  | .vCmpsLtF64 form => Sys2Proof.Machine.execVCmpsLtF64 form s
  | .vCmpsEqF64 form => Sys2Proof.Machine.execVCmpsEqF64 form s
  | .vCmpsLeF64 form => Sys2Proof.Machine.execVCmpsLeF64 form s
  | .vCmpsGtF64 form => Sys2Proof.Machine.execVCmpsGtF64 form s
  | .vCmpsLgF64 form => Sys2Proof.Machine.execVCmpsLgF64 form s
  | .vCmpsGeF64 form => Sys2Proof.Machine.execVCmpsGeF64 form s
  | .vCmpsOF64 form => Sys2Proof.Machine.execVCmpsOF64 form s
  | .vCmpsUF64 form => Sys2Proof.Machine.execVCmpsUF64 form s
  | .vCmpsNgeF64 form => Sys2Proof.Machine.execVCmpsNgeF64 form s
  | .vCmpsNlgF64 form => Sys2Proof.Machine.execVCmpsNlgF64 form s
  | .vCmpsNgtF64 form => Sys2Proof.Machine.execVCmpsNgtF64 form s
  | .vCmpsNleF64 form => Sys2Proof.Machine.execVCmpsNleF64 form s
  | .vCmpsNeqF64 form => Sys2Proof.Machine.execVCmpsNeqF64 form s
  | .vCmpsNltF64 form => Sys2Proof.Machine.execVCmpsNltF64 form s
  | .vCmpsTF64 form => Sys2Proof.Machine.execVCmpsTF64 form s
  | .vCmpsxFF64 form => Sys2Proof.Machine.execVCmpsxFF64 form s
  | .vCmpsxLtF64 form => Sys2Proof.Machine.execVCmpsxLtF64 form s
  | .vCmpsxEqF64 form => Sys2Proof.Machine.execVCmpsxEqF64 form s
  | .vCmpsxLeF64 form => Sys2Proof.Machine.execVCmpsxLeF64 form s
  | .vCmpsxGtF64 form => Sys2Proof.Machine.execVCmpsxGtF64 form s
  | .vCmpsxLgF64 form => Sys2Proof.Machine.execVCmpsxLgF64 form s
  | .vCmpsxGeF64 form => Sys2Proof.Machine.execVCmpsxGeF64 form s
  | .vCmpsxOF64 form => Sys2Proof.Machine.execVCmpsxOF64 form s
  | .vCmpsxUF64 form => Sys2Proof.Machine.execVCmpsxUF64 form s
  | .vCmpsxNgeF64 form => Sys2Proof.Machine.execVCmpsxNgeF64 form s
  | .vCmpsxNlgF64 form => Sys2Proof.Machine.execVCmpsxNlgF64 form s
  | .vCmpsxNgtF64 form => Sys2Proof.Machine.execVCmpsxNgtF64 form s
  | .vCmpsxNleF64 form => Sys2Proof.Machine.execVCmpsxNleF64 form s
  | .vCmpsxNeqF64 form => Sys2Proof.Machine.execVCmpsxNeqF64 form s
  | .vCmpsxNltF64 form => Sys2Proof.Machine.execVCmpsxNltF64 form s
  | .vCmpsxTF64 form => Sys2Proof.Machine.execVCmpsxTF64 form s
  | .vCmpFI32 form => Sys2Proof.Machine.execVCmpFI32 form s
  | .vCmpLtI32 form => Sys2Proof.Machine.execVCmpLtI32 form s
  | .vCmpEqI32 form => Sys2Proof.Machine.execVCmpEqI32 form s
  | .vCmpLeI32 form => Sys2Proof.Machine.execVCmpLeI32 form s
  | .vCmpGtI32 form => Sys2Proof.Machine.execVCmpGtI32 form s
  | .vCmpLgI32 form => Sys2Proof.Machine.execVCmpLgI32 form s
  | .vCmpGeI32 form => Sys2Proof.Machine.execVCmpGeI32 form s
  | .vCmpTI32 form => Sys2Proof.Machine.execVCmpTI32 form s
  | .vCmpClassF32 form => Sys2Proof.Machine.execVCmpClassF32 form s
  | .vCmpxFI32 form => Sys2Proof.Machine.execVCmpxFI32 form s
  | .vCmpxLtI32 form => Sys2Proof.Machine.execVCmpxLtI32 form s
  | .vCmpxEqI32 form => Sys2Proof.Machine.execVCmpxEqI32 form s
  | .vCmpxLeI32 form => Sys2Proof.Machine.execVCmpxLeI32 form s
  | .vCmpxGtI32 form => Sys2Proof.Machine.execVCmpxGtI32 form s
  | .vCmpxLgI32 form => Sys2Proof.Machine.execVCmpxLgI32 form s
  | .vCmpxGeI32 form => Sys2Proof.Machine.execVCmpxGeI32 form s
  | .vCmpxTI32 form => Sys2Proof.Machine.execVCmpxTI32 form s
  | .vCmpxClassF32 form => Sys2Proof.Machine.execVCmpxClassF32 form s
  | .vCmpFI64 form => Sys2Proof.Machine.execVCmpFI64 form s
  | .vCmpLtI64 form => Sys2Proof.Machine.execVCmpLtI64 form s
  | .vCmpEqI64 form => Sys2Proof.Machine.execVCmpEqI64 form s
  | .vCmpLeI64 form => Sys2Proof.Machine.execVCmpLeI64 form s
  | .vCmpGtI64 form => Sys2Proof.Machine.execVCmpGtI64 form s
  | .vCmpLgI64 form => Sys2Proof.Machine.execVCmpLgI64 form s
  | .vCmpGeI64 form => Sys2Proof.Machine.execVCmpGeI64 form s
  | .vCmpTI64 form => Sys2Proof.Machine.execVCmpTI64 form s
  | .vCmpClassF64 form => Sys2Proof.Machine.execVCmpClassF64 form s
  | .vCmpxFI64 form => Sys2Proof.Machine.execVCmpxFI64 form s
  | .vCmpxLtI64 form => Sys2Proof.Machine.execVCmpxLtI64 form s
  | .vCmpxEqI64 form => Sys2Proof.Machine.execVCmpxEqI64 form s
  | .vCmpxLeI64 form => Sys2Proof.Machine.execVCmpxLeI64 form s
  | .vCmpxGtI64 form => Sys2Proof.Machine.execVCmpxGtI64 form s
  | .vCmpxLgI64 form => Sys2Proof.Machine.execVCmpxLgI64 form s
  | .vCmpxGeI64 form => Sys2Proof.Machine.execVCmpxGeI64 form s
  | .vCmpxTI64 form => Sys2Proof.Machine.execVCmpxTI64 form s
  | .vCmpxClassF64 form => Sys2Proof.Machine.execVCmpxClassF64 form s
  | .vCmpFU32 form => Sys2Proof.Machine.execVCmpFU32 form s
  | .vCmpLtU32 form => Sys2Proof.Machine.execVCmpLtU32 form s
  | .vCmpEqU32 form => Sys2Proof.Machine.execVCmpEqU32 form s
  | .vCmpLeU32 form => Sys2Proof.Machine.execVCmpLeU32 form s
  | .vCmpGtU32 form => Sys2Proof.Machine.execVCmpGtU32 form s
  | .vCmpLgU32 form => Sys2Proof.Machine.execVCmpLgU32 form s
  | .vCmpGeU32 form => Sys2Proof.Machine.execVCmpGeU32 form s
  | .vCmpTU32 form => Sys2Proof.Machine.execVCmpTU32 form s
  | .vCmpxFU32 form => Sys2Proof.Machine.execVCmpxFU32 form s
  | .vCmpxLtU32 form => Sys2Proof.Machine.execVCmpxLtU32 form s
  | .vCmpxEqU32 form => Sys2Proof.Machine.execVCmpxEqU32 form s
  | .vCmpxLeU32 form => Sys2Proof.Machine.execVCmpxLeU32 form s
  | .vCmpxGtU32 form => Sys2Proof.Machine.execVCmpxGtU32 form s
  | .vCmpxLgU32 form => Sys2Proof.Machine.execVCmpxLgU32 form s
  | .vCmpxGeU32 form => Sys2Proof.Machine.execVCmpxGeU32 form s
  | .vCmpxTU32 form => Sys2Proof.Machine.execVCmpxTU32 form s
  | .vCmpFU64 form => Sys2Proof.Machine.execVCmpFU64 form s
  | .vCmpLtU64 form => Sys2Proof.Machine.execVCmpLtU64 form s
  | .vCmpEqU64 form => Sys2Proof.Machine.execVCmpEqU64 form s
  | .vCmpLeU64 form => Sys2Proof.Machine.execVCmpLeU64 form s
  | .vCmpGtU64 form => Sys2Proof.Machine.execVCmpGtU64 form s
  | .vCmpLgU64 form => Sys2Proof.Machine.execVCmpLgU64 form s
  | .vCmpGeU64 form => Sys2Proof.Machine.execVCmpGeU64 form s
  | .vCmpTU64 form => Sys2Proof.Machine.execVCmpTU64 form s
  | .vCmpxFU64 form => Sys2Proof.Machine.execVCmpxFU64 form s
  | .vCmpxLtU64 form => Sys2Proof.Machine.execVCmpxLtU64 form s
  | .vCmpxEqU64 form => Sys2Proof.Machine.execVCmpxEqU64 form s
  | .vCmpxLeU64 form => Sys2Proof.Machine.execVCmpxLeU64 form s
  | .vCmpxGtU64 form => Sys2Proof.Machine.execVCmpxGtU64 form s
  | .vCmpxLgU64 form => Sys2Proof.Machine.execVCmpxLgU64 form s
  | .vCmpxGeU64 form => Sys2Proof.Machine.execVCmpxGeU64 form s
  | .vCmpxTU64 form => Sys2Proof.Machine.execVCmpxTU64 form s

end Sys2Proof.Machine
end

