-- ==== Sys2Proof/Machine/OpcodeMap.lean ====
section
/-! DEFINITION. The opcode map of GCN 1.0/1.1 (30_encoding.md R93 to R96): the opcode number of each instruction, its operands
as a `Form`, and the rows from which the decoder builds an instruction. -/

namespace Sys2Proof

/-- The 8-bit opcode of an instruction, the same in both encodings (30_encoding.md R78, R93). -/
def Instr.opcode : Instr → Nat
  | .vCmpFF32 _ => 0x00
  | .vCmpLtF32 _ => 0x01
  | .vCmpEqF32 _ => 0x02
  | .vCmpLeF32 _ => 0x03
  | .vCmpGtF32 _ => 0x04
  | .vCmpLgF32 _ => 0x05
  | .vCmpGeF32 _ => 0x06
  | .vCmpOF32 _ => 0x07
  | .vCmpUF32 _ => 0x08
  | .vCmpNgeF32 _ => 0x09
  | .vCmpNlgF32 _ => 0x0A
  | .vCmpNgtF32 _ => 0x0B
  | .vCmpNleF32 _ => 0x0C
  | .vCmpNeqF32 _ => 0x0D
  | .vCmpNltF32 _ => 0x0E
  | .vCmpTF32 _ => 0x0F
  | .vCmpxFF32 _ => 0x10
  | .vCmpxLtF32 _ => 0x11
  | .vCmpxEqF32 _ => 0x12
  | .vCmpxLeF32 _ => 0x13
  | .vCmpxGtF32 _ => 0x14
  | .vCmpxLgF32 _ => 0x15
  | .vCmpxGeF32 _ => 0x16
  | .vCmpxOF32 _ => 0x17
  | .vCmpxUF32 _ => 0x18
  | .vCmpxNgeF32 _ => 0x19
  | .vCmpxNlgF32 _ => 0x1A
  | .vCmpxNgtF32 _ => 0x1B
  | .vCmpxNleF32 _ => 0x1C
  | .vCmpxNeqF32 _ => 0x1D
  | .vCmpxNltF32 _ => 0x1E
  | .vCmpxTF32 _ => 0x1F
  | .vCmpFF64 _ => 0x20
  | .vCmpLtF64 _ => 0x21
  | .vCmpEqF64 _ => 0x22
  | .vCmpLeF64 _ => 0x23
  | .vCmpGtF64 _ => 0x24
  | .vCmpLgF64 _ => 0x25
  | .vCmpGeF64 _ => 0x26
  | .vCmpOF64 _ => 0x27
  | .vCmpUF64 _ => 0x28
  | .vCmpNgeF64 _ => 0x29
  | .vCmpNlgF64 _ => 0x2A
  | .vCmpNgtF64 _ => 0x2B
  | .vCmpNleF64 _ => 0x2C
  | .vCmpNeqF64 _ => 0x2D
  | .vCmpNltF64 _ => 0x2E
  | .vCmpTF64 _ => 0x2F
  | .vCmpxFF64 _ => 0x30
  | .vCmpxLtF64 _ => 0x31
  | .vCmpxEqF64 _ => 0x32
  | .vCmpxLeF64 _ => 0x33
  | .vCmpxGtF64 _ => 0x34
  | .vCmpxLgF64 _ => 0x35
  | .vCmpxGeF64 _ => 0x36
  | .vCmpxOF64 _ => 0x37
  | .vCmpxUF64 _ => 0x38
  | .vCmpxNgeF64 _ => 0x39
  | .vCmpxNlgF64 _ => 0x3A
  | .vCmpxNgtF64 _ => 0x3B
  | .vCmpxNleF64 _ => 0x3C
  | .vCmpxNeqF64 _ => 0x3D
  | .vCmpxNltF64 _ => 0x3E
  | .vCmpxTF64 _ => 0x3F
  | .vCmpsFF32 _ => 0x40
  | .vCmpsLtF32 _ => 0x41
  | .vCmpsEqF32 _ => 0x42
  | .vCmpsLeF32 _ => 0x43
  | .vCmpsGtF32 _ => 0x44
  | .vCmpsLgF32 _ => 0x45
  | .vCmpsGeF32 _ => 0x46
  | .vCmpsOF32 _ => 0x47
  | .vCmpsUF32 _ => 0x48
  | .vCmpsNgeF32 _ => 0x49
  | .vCmpsNlgF32 _ => 0x4A
  | .vCmpsNgtF32 _ => 0x4B
  | .vCmpsNleF32 _ => 0x4C
  | .vCmpsNeqF32 _ => 0x4D
  | .vCmpsNltF32 _ => 0x4E
  | .vCmpsTF32 _ => 0x4F
  | .vCmpsxFF32 _ => 0x50
  | .vCmpsxLtF32 _ => 0x51
  | .vCmpsxEqF32 _ => 0x52
  | .vCmpsxLeF32 _ => 0x53
  | .vCmpsxGtF32 _ => 0x54
  | .vCmpsxLgF32 _ => 0x55
  | .vCmpsxGeF32 _ => 0x56
  | .vCmpsxOF32 _ => 0x57
  | .vCmpsxUF32 _ => 0x58
  | .vCmpsxNgeF32 _ => 0x59
  | .vCmpsxNlgF32 _ => 0x5A
  | .vCmpsxNgtF32 _ => 0x5B
  | .vCmpsxNleF32 _ => 0x5C
  | .vCmpsxNeqF32 _ => 0x5D
  | .vCmpsxNltF32 _ => 0x5E
  | .vCmpsxTF32 _ => 0x5F
  | .vCmpsFF64 _ => 0x60
  | .vCmpsLtF64 _ => 0x61
  | .vCmpsEqF64 _ => 0x62
  | .vCmpsLeF64 _ => 0x63
  | .vCmpsGtF64 _ => 0x64
  | .vCmpsLgF64 _ => 0x65
  | .vCmpsGeF64 _ => 0x66
  | .vCmpsOF64 _ => 0x67
  | .vCmpsUF64 _ => 0x68
  | .vCmpsNgeF64 _ => 0x69
  | .vCmpsNlgF64 _ => 0x6A
  | .vCmpsNgtF64 _ => 0x6B
  | .vCmpsNleF64 _ => 0x6C
  | .vCmpsNeqF64 _ => 0x6D
  | .vCmpsNltF64 _ => 0x6E
  | .vCmpsTF64 _ => 0x6F
  | .vCmpsxFF64 _ => 0x70
  | .vCmpsxLtF64 _ => 0x71
  | .vCmpsxEqF64 _ => 0x72
  | .vCmpsxLeF64 _ => 0x73
  | .vCmpsxGtF64 _ => 0x74
  | .vCmpsxLgF64 _ => 0x75
  | .vCmpsxGeF64 _ => 0x76
  | .vCmpsxOF64 _ => 0x77
  | .vCmpsxUF64 _ => 0x78
  | .vCmpsxNgeF64 _ => 0x79
  | .vCmpsxNlgF64 _ => 0x7A
  | .vCmpsxNgtF64 _ => 0x7B
  | .vCmpsxNleF64 _ => 0x7C
  | .vCmpsxNeqF64 _ => 0x7D
  | .vCmpsxNltF64 _ => 0x7E
  | .vCmpsxTF64 _ => 0x7F
  | .vCmpFI32 _ => 0x80
  | .vCmpLtI32 _ => 0x81
  | .vCmpEqI32 _ => 0x82
  | .vCmpLeI32 _ => 0x83
  | .vCmpGtI32 _ => 0x84
  | .vCmpLgI32 _ => 0x85
  | .vCmpGeI32 _ => 0x86
  | .vCmpTI32 _ => 0x87
  | .vCmpClassF32 _ => 0x88
  | .vCmpxFI32 _ => 0x90
  | .vCmpxLtI32 _ => 0x91
  | .vCmpxEqI32 _ => 0x92
  | .vCmpxLeI32 _ => 0x93
  | .vCmpxGtI32 _ => 0x94
  | .vCmpxLgI32 _ => 0x95
  | .vCmpxGeI32 _ => 0x96
  | .vCmpxTI32 _ => 0x97
  | .vCmpxClassF32 _ => 0x98
  | .vCmpFI64 _ => 0xA0
  | .vCmpLtI64 _ => 0xA1
  | .vCmpEqI64 _ => 0xA2
  | .vCmpLeI64 _ => 0xA3
  | .vCmpGtI64 _ => 0xA4
  | .vCmpLgI64 _ => 0xA5
  | .vCmpGeI64 _ => 0xA6
  | .vCmpTI64 _ => 0xA7
  | .vCmpClassF64 _ => 0xA8
  | .vCmpxFI64 _ => 0xB0
  | .vCmpxLtI64 _ => 0xB1
  | .vCmpxEqI64 _ => 0xB2
  | .vCmpxLeI64 _ => 0xB3
  | .vCmpxGtI64 _ => 0xB4
  | .vCmpxLgI64 _ => 0xB5
  | .vCmpxGeI64 _ => 0xB6
  | .vCmpxTI64 _ => 0xB7
  | .vCmpxClassF64 _ => 0xB8
  | .vCmpFU32 _ => 0xC0
  | .vCmpLtU32 _ => 0xC1
  | .vCmpEqU32 _ => 0xC2
  | .vCmpLeU32 _ => 0xC3
  | .vCmpGtU32 _ => 0xC4
  | .vCmpLgU32 _ => 0xC5
  | .vCmpGeU32 _ => 0xC6
  | .vCmpTU32 _ => 0xC7
  | .vCmpxFU32 _ => 0xD0
  | .vCmpxLtU32 _ => 0xD1
  | .vCmpxEqU32 _ => 0xD2
  | .vCmpxLeU32 _ => 0xD3
  | .vCmpxGtU32 _ => 0xD4
  | .vCmpxLgU32 _ => 0xD5
  | .vCmpxGeU32 _ => 0xD6
  | .vCmpxTU32 _ => 0xD7
  | .vCmpFU64 _ => 0xE0
  | .vCmpLtU64 _ => 0xE1
  | .vCmpEqU64 _ => 0xE2
  | .vCmpLeU64 _ => 0xE3
  | .vCmpGtU64 _ => 0xE4
  | .vCmpLgU64 _ => 0xE5
  | .vCmpGeU64 _ => 0xE6
  | .vCmpTU64 _ => 0xE7
  | .vCmpxFU64 _ => 0xF0
  | .vCmpxLtU64 _ => 0xF1
  | .vCmpxEqU64 _ => 0xF2
  | .vCmpxLeU64 _ => 0xF3
  | .vCmpxGtU64 _ => 0xF4
  | .vCmpxLgU64 _ => 0xF5
  | .vCmpxGeU64 _ => 0xF6
  | .vCmpxTU64 _ => 0xF7

/-- The operands of an instruction (30_encoding.md R80, R102). -/
def Instr.form : Instr → Form
  | .vCmpFF32 form => form
  | .vCmpLtF32 form => form
  | .vCmpEqF32 form => form
  | .vCmpLeF32 form => form
  | .vCmpGtF32 form => form
  | .vCmpLgF32 form => form
  | .vCmpGeF32 form => form
  | .vCmpOF32 form => form
  | .vCmpUF32 form => form
  | .vCmpNgeF32 form => form
  | .vCmpNlgF32 form => form
  | .vCmpNgtF32 form => form
  | .vCmpNleF32 form => form
  | .vCmpNeqF32 form => form
  | .vCmpNltF32 form => form
  | .vCmpTF32 form => form
  | .vCmpxFF32 form => form
  | .vCmpxLtF32 form => form
  | .vCmpxEqF32 form => form
  | .vCmpxLeF32 form => form
  | .vCmpxGtF32 form => form
  | .vCmpxLgF32 form => form
  | .vCmpxGeF32 form => form
  | .vCmpxOF32 form => form
  | .vCmpxUF32 form => form
  | .vCmpxNgeF32 form => form
  | .vCmpxNlgF32 form => form
  | .vCmpxNgtF32 form => form
  | .vCmpxNleF32 form => form
  | .vCmpxNeqF32 form => form
  | .vCmpxNltF32 form => form
  | .vCmpxTF32 form => form
  | .vCmpFF64 form => form
  | .vCmpLtF64 form => form
  | .vCmpEqF64 form => form
  | .vCmpLeF64 form => form
  | .vCmpGtF64 form => form
  | .vCmpLgF64 form => form
  | .vCmpGeF64 form => form
  | .vCmpOF64 form => form
  | .vCmpUF64 form => form
  | .vCmpNgeF64 form => form
  | .vCmpNlgF64 form => form
  | .vCmpNgtF64 form => form
  | .vCmpNleF64 form => form
  | .vCmpNeqF64 form => form
  | .vCmpNltF64 form => form
  | .vCmpTF64 form => form
  | .vCmpxFF64 form => form
  | .vCmpxLtF64 form => form
  | .vCmpxEqF64 form => form
  | .vCmpxLeF64 form => form
  | .vCmpxGtF64 form => form
  | .vCmpxLgF64 form => form
  | .vCmpxGeF64 form => form
  | .vCmpxOF64 form => form
  | .vCmpxUF64 form => form
  | .vCmpxNgeF64 form => form
  | .vCmpxNlgF64 form => form
  | .vCmpxNgtF64 form => form
  | .vCmpxNleF64 form => form
  | .vCmpxNeqF64 form => form
  | .vCmpxNltF64 form => form
  | .vCmpxTF64 form => form
  | .vCmpsFF32 form => form
  | .vCmpsLtF32 form => form
  | .vCmpsEqF32 form => form
  | .vCmpsLeF32 form => form
  | .vCmpsGtF32 form => form
  | .vCmpsLgF32 form => form
  | .vCmpsGeF32 form => form
  | .vCmpsOF32 form => form
  | .vCmpsUF32 form => form
  | .vCmpsNgeF32 form => form
  | .vCmpsNlgF32 form => form
  | .vCmpsNgtF32 form => form
  | .vCmpsNleF32 form => form
  | .vCmpsNeqF32 form => form
  | .vCmpsNltF32 form => form
  | .vCmpsTF32 form => form
  | .vCmpsxFF32 form => form
  | .vCmpsxLtF32 form => form
  | .vCmpsxEqF32 form => form
  | .vCmpsxLeF32 form => form
  | .vCmpsxGtF32 form => form
  | .vCmpsxLgF32 form => form
  | .vCmpsxGeF32 form => form
  | .vCmpsxOF32 form => form
  | .vCmpsxUF32 form => form
  | .vCmpsxNgeF32 form => form
  | .vCmpsxNlgF32 form => form
  | .vCmpsxNgtF32 form => form
  | .vCmpsxNleF32 form => form
  | .vCmpsxNeqF32 form => form
  | .vCmpsxNltF32 form => form
  | .vCmpsxTF32 form => form
  | .vCmpsFF64 form => form
  | .vCmpsLtF64 form => form
  | .vCmpsEqF64 form => form
  | .vCmpsLeF64 form => form
  | .vCmpsGtF64 form => form
  | .vCmpsLgF64 form => form
  | .vCmpsGeF64 form => form
  | .vCmpsOF64 form => form
  | .vCmpsUF64 form => form
  | .vCmpsNgeF64 form => form
  | .vCmpsNlgF64 form => form
  | .vCmpsNgtF64 form => form
  | .vCmpsNleF64 form => form
  | .vCmpsNeqF64 form => form
  | .vCmpsNltF64 form => form
  | .vCmpsTF64 form => form
  | .vCmpsxFF64 form => form
  | .vCmpsxLtF64 form => form
  | .vCmpsxEqF64 form => form
  | .vCmpsxLeF64 form => form
  | .vCmpsxGtF64 form => form
  | .vCmpsxLgF64 form => form
  | .vCmpsxGeF64 form => form
  | .vCmpsxOF64 form => form
  | .vCmpsxUF64 form => form
  | .vCmpsxNgeF64 form => form
  | .vCmpsxNlgF64 form => form
  | .vCmpsxNgtF64 form => form
  | .vCmpsxNleF64 form => form
  | .vCmpsxNeqF64 form => form
  | .vCmpsxNltF64 form => form
  | .vCmpsxTF64 form => form
  | .vCmpFI32 form => form
  | .vCmpLtI32 form => form
  | .vCmpEqI32 form => form
  | .vCmpLeI32 form => form
  | .vCmpGtI32 form => form
  | .vCmpLgI32 form => form
  | .vCmpGeI32 form => form
  | .vCmpTI32 form => form
  | .vCmpClassF32 form => form
  | .vCmpxFI32 form => form
  | .vCmpxLtI32 form => form
  | .vCmpxEqI32 form => form
  | .vCmpxLeI32 form => form
  | .vCmpxGtI32 form => form
  | .vCmpxLgI32 form => form
  | .vCmpxGeI32 form => form
  | .vCmpxTI32 form => form
  | .vCmpxClassF32 form => form
  | .vCmpFI64 form => form
  | .vCmpLtI64 form => form
  | .vCmpEqI64 form => form
  | .vCmpLeI64 form => form
  | .vCmpGtI64 form => form
  | .vCmpLgI64 form => form
  | .vCmpGeI64 form => form
  | .vCmpTI64 form => form
  | .vCmpClassF64 form => form
  | .vCmpxFI64 form => form
  | .vCmpxLtI64 form => form
  | .vCmpxEqI64 form => form
  | .vCmpxLeI64 form => form
  | .vCmpxGtI64 form => form
  | .vCmpxLgI64 form => form
  | .vCmpxGeI64 form => form
  | .vCmpxTI64 form => form
  | .vCmpxClassF64 form => form
  | .vCmpFU32 form => form
  | .vCmpLtU32 form => form
  | .vCmpEqU32 form => form
  | .vCmpLeU32 form => form
  | .vCmpGtU32 form => form
  | .vCmpLgU32 form => form
  | .vCmpGeU32 form => form
  | .vCmpTU32 form => form
  | .vCmpxFU32 form => form
  | .vCmpxLtU32 form => form
  | .vCmpxEqU32 form => form
  | .vCmpxLeU32 form => form
  | .vCmpxGtU32 form => form
  | .vCmpxLgU32 form => form
  | .vCmpxGeU32 form => form
  | .vCmpxTU32 form => form
  | .vCmpFU64 form => form
  | .vCmpLtU64 form => form
  | .vCmpEqU64 form => form
  | .vCmpLeU64 form => form
  | .vCmpGtU64 form => form
  | .vCmpLgU64 form => form
  | .vCmpGeU64 form => form
  | .vCmpTU64 form => form
  | .vCmpxFU64 form => form
  | .vCmpxLtU64 form => form
  | .vCmpxEqU64 form => form
  | .vCmpxLeU64 form => form
  | .vCmpxGtU64 form => form
  | .vCmpxLgU64 form => form
  | .vCmpxGeU64 form => form
  | .vCmpxTU64 form => form

/-- A row of the opcode map: the opcode and the instruction it names, given its operands (30_encoding.md R93). -/
structure OpcodeRow where
  opcode : Nat
  build : Form → Instr

/-- Opcode group 0: V_CMP F32 (30_encoding.md R93). -/
def opcodeGroup0 : List OpcodeRow :=
  [⟨0x00, .vCmpFF32⟩,
   ⟨0x01, .vCmpLtF32⟩,
   ⟨0x02, .vCmpEqF32⟩,
   ⟨0x03, .vCmpLeF32⟩,
   ⟨0x04, .vCmpGtF32⟩,
   ⟨0x05, .vCmpLgF32⟩,
   ⟨0x06, .vCmpGeF32⟩,
   ⟨0x07, .vCmpOF32⟩,
   ⟨0x08, .vCmpUF32⟩,
   ⟨0x09, .vCmpNgeF32⟩,
   ⟨0x0A, .vCmpNlgF32⟩,
   ⟨0x0B, .vCmpNgtF32⟩,
   ⟨0x0C, .vCmpNleF32⟩,
   ⟨0x0D, .vCmpNeqF32⟩,
   ⟨0x0E, .vCmpNltF32⟩,
   ⟨0x0F, .vCmpTF32⟩]

/-- Opcode group 1: V_CMPX F32 (30_encoding.md R93). -/
def opcodeGroup1 : List OpcodeRow :=
  [⟨0x10, .vCmpxFF32⟩,
   ⟨0x11, .vCmpxLtF32⟩,
   ⟨0x12, .vCmpxEqF32⟩,
   ⟨0x13, .vCmpxLeF32⟩,
   ⟨0x14, .vCmpxGtF32⟩,
   ⟨0x15, .vCmpxLgF32⟩,
   ⟨0x16, .vCmpxGeF32⟩,
   ⟨0x17, .vCmpxOF32⟩,
   ⟨0x18, .vCmpxUF32⟩,
   ⟨0x19, .vCmpxNgeF32⟩,
   ⟨0x1A, .vCmpxNlgF32⟩,
   ⟨0x1B, .vCmpxNgtF32⟩,
   ⟨0x1C, .vCmpxNleF32⟩,
   ⟨0x1D, .vCmpxNeqF32⟩,
   ⟨0x1E, .vCmpxNltF32⟩,
   ⟨0x1F, .vCmpxTF32⟩]

/-- Opcode group 2: V_CMP F64 (30_encoding.md R93). -/
def opcodeGroup2 : List OpcodeRow :=
  [⟨0x20, .vCmpFF64⟩,
   ⟨0x21, .vCmpLtF64⟩,
   ⟨0x22, .vCmpEqF64⟩,
   ⟨0x23, .vCmpLeF64⟩,
   ⟨0x24, .vCmpGtF64⟩,
   ⟨0x25, .vCmpLgF64⟩,
   ⟨0x26, .vCmpGeF64⟩,
   ⟨0x27, .vCmpOF64⟩,
   ⟨0x28, .vCmpUF64⟩,
   ⟨0x29, .vCmpNgeF64⟩,
   ⟨0x2A, .vCmpNlgF64⟩,
   ⟨0x2B, .vCmpNgtF64⟩,
   ⟨0x2C, .vCmpNleF64⟩,
   ⟨0x2D, .vCmpNeqF64⟩,
   ⟨0x2E, .vCmpNltF64⟩,
   ⟨0x2F, .vCmpTF64⟩]

/-- Opcode group 3: V_CMPX F64 (30_encoding.md R93). -/
def opcodeGroup3 : List OpcodeRow :=
  [⟨0x30, .vCmpxFF64⟩,
   ⟨0x31, .vCmpxLtF64⟩,
   ⟨0x32, .vCmpxEqF64⟩,
   ⟨0x33, .vCmpxLeF64⟩,
   ⟨0x34, .vCmpxGtF64⟩,
   ⟨0x35, .vCmpxLgF64⟩,
   ⟨0x36, .vCmpxGeF64⟩,
   ⟨0x37, .vCmpxOF64⟩,
   ⟨0x38, .vCmpxUF64⟩,
   ⟨0x39, .vCmpxNgeF64⟩,
   ⟨0x3A, .vCmpxNlgF64⟩,
   ⟨0x3B, .vCmpxNgtF64⟩,
   ⟨0x3C, .vCmpxNleF64⟩,
   ⟨0x3D, .vCmpxNeqF64⟩,
   ⟨0x3E, .vCmpxNltF64⟩,
   ⟨0x3F, .vCmpxTF64⟩]

/-- Opcode group 4: V_CMPS F32 (30_encoding.md R93). -/
def opcodeGroup4 : List OpcodeRow :=
  [⟨0x40, .vCmpsFF32⟩,
   ⟨0x41, .vCmpsLtF32⟩,
   ⟨0x42, .vCmpsEqF32⟩,
   ⟨0x43, .vCmpsLeF32⟩,
   ⟨0x44, .vCmpsGtF32⟩,
   ⟨0x45, .vCmpsLgF32⟩,
   ⟨0x46, .vCmpsGeF32⟩,
   ⟨0x47, .vCmpsOF32⟩,
   ⟨0x48, .vCmpsUF32⟩,
   ⟨0x49, .vCmpsNgeF32⟩,
   ⟨0x4A, .vCmpsNlgF32⟩,
   ⟨0x4B, .vCmpsNgtF32⟩,
   ⟨0x4C, .vCmpsNleF32⟩,
   ⟨0x4D, .vCmpsNeqF32⟩,
   ⟨0x4E, .vCmpsNltF32⟩,
   ⟨0x4F, .vCmpsTF32⟩]

/-- Opcode group 5: V_CMPSX F32 (30_encoding.md R93). -/
def opcodeGroup5 : List OpcodeRow :=
  [⟨0x50, .vCmpsxFF32⟩,
   ⟨0x51, .vCmpsxLtF32⟩,
   ⟨0x52, .vCmpsxEqF32⟩,
   ⟨0x53, .vCmpsxLeF32⟩,
   ⟨0x54, .vCmpsxGtF32⟩,
   ⟨0x55, .vCmpsxLgF32⟩,
   ⟨0x56, .vCmpsxGeF32⟩,
   ⟨0x57, .vCmpsxOF32⟩,
   ⟨0x58, .vCmpsxUF32⟩,
   ⟨0x59, .vCmpsxNgeF32⟩,
   ⟨0x5A, .vCmpsxNlgF32⟩,
   ⟨0x5B, .vCmpsxNgtF32⟩,
   ⟨0x5C, .vCmpsxNleF32⟩,
   ⟨0x5D, .vCmpsxNeqF32⟩,
   ⟨0x5E, .vCmpsxNltF32⟩,
   ⟨0x5F, .vCmpsxTF32⟩]

/-- Opcode group 6: V_CMPS F64 (30_encoding.md R93). -/
def opcodeGroup6 : List OpcodeRow :=
  [⟨0x60, .vCmpsFF64⟩,
   ⟨0x61, .vCmpsLtF64⟩,
   ⟨0x62, .vCmpsEqF64⟩,
   ⟨0x63, .vCmpsLeF64⟩,
   ⟨0x64, .vCmpsGtF64⟩,
   ⟨0x65, .vCmpsLgF64⟩,
   ⟨0x66, .vCmpsGeF64⟩,
   ⟨0x67, .vCmpsOF64⟩,
   ⟨0x68, .vCmpsUF64⟩,
   ⟨0x69, .vCmpsNgeF64⟩,
   ⟨0x6A, .vCmpsNlgF64⟩,
   ⟨0x6B, .vCmpsNgtF64⟩,
   ⟨0x6C, .vCmpsNleF64⟩,
   ⟨0x6D, .vCmpsNeqF64⟩,
   ⟨0x6E, .vCmpsNltF64⟩,
   ⟨0x6F, .vCmpsTF64⟩]

/-- Opcode group 7: V_CMPSX F64 (30_encoding.md R93). -/
def opcodeGroup7 : List OpcodeRow :=
  [⟨0x70, .vCmpsxFF64⟩,
   ⟨0x71, .vCmpsxLtF64⟩,
   ⟨0x72, .vCmpsxEqF64⟩,
   ⟨0x73, .vCmpsxLeF64⟩,
   ⟨0x74, .vCmpsxGtF64⟩,
   ⟨0x75, .vCmpsxLgF64⟩,
   ⟨0x76, .vCmpsxGeF64⟩,
   ⟨0x77, .vCmpsxOF64⟩,
   ⟨0x78, .vCmpsxUF64⟩,
   ⟨0x79, .vCmpsxNgeF64⟩,
   ⟨0x7A, .vCmpsxNlgF64⟩,
   ⟨0x7B, .vCmpsxNgtF64⟩,
   ⟨0x7C, .vCmpsxNleF64⟩,
   ⟨0x7D, .vCmpsxNeqF64⟩,
   ⟨0x7E, .vCmpsxNltF64⟩,
   ⟨0x7F, .vCmpsxTF64⟩]

/-- Opcode group 8: I32 (30_encoding.md R93). -/
def opcodeGroup8 : List OpcodeRow :=
  [⟨0x80, .vCmpFI32⟩,
   ⟨0x81, .vCmpLtI32⟩,
   ⟨0x82, .vCmpEqI32⟩,
   ⟨0x83, .vCmpLeI32⟩,
   ⟨0x84, .vCmpGtI32⟩,
   ⟨0x85, .vCmpLgI32⟩,
   ⟨0x86, .vCmpGeI32⟩,
   ⟨0x87, .vCmpTI32⟩,
   ⟨0x88, .vCmpClassF32⟩]

/-- Opcode group 9: I32, EXEC-writing (30_encoding.md R93). -/
def opcodeGroup9 : List OpcodeRow :=
  [⟨0x90, .vCmpxFI32⟩,
   ⟨0x91, .vCmpxLtI32⟩,
   ⟨0x92, .vCmpxEqI32⟩,
   ⟨0x93, .vCmpxLeI32⟩,
   ⟨0x94, .vCmpxGtI32⟩,
   ⟨0x95, .vCmpxLgI32⟩,
   ⟨0x96, .vCmpxGeI32⟩,
   ⟨0x97, .vCmpxTI32⟩,
   ⟨0x98, .vCmpxClassF32⟩]

/-- Opcode group 10: I64 (30_encoding.md R93). -/
def opcodeGroupA : List OpcodeRow :=
  [⟨0xA0, .vCmpFI64⟩,
   ⟨0xA1, .vCmpLtI64⟩,
   ⟨0xA2, .vCmpEqI64⟩,
   ⟨0xA3, .vCmpLeI64⟩,
   ⟨0xA4, .vCmpGtI64⟩,
   ⟨0xA5, .vCmpLgI64⟩,
   ⟨0xA6, .vCmpGeI64⟩,
   ⟨0xA7, .vCmpTI64⟩,
   ⟨0xA8, .vCmpClassF64⟩]

/-- Opcode group 11: I64, EXEC-writing (30_encoding.md R93). -/
def opcodeGroupB : List OpcodeRow :=
  [⟨0xB0, .vCmpxFI64⟩,
   ⟨0xB1, .vCmpxLtI64⟩,
   ⟨0xB2, .vCmpxEqI64⟩,
   ⟨0xB3, .vCmpxLeI64⟩,
   ⟨0xB4, .vCmpxGtI64⟩,
   ⟨0xB5, .vCmpxLgI64⟩,
   ⟨0xB6, .vCmpxGeI64⟩,
   ⟨0xB7, .vCmpxTI64⟩,
   ⟨0xB8, .vCmpxClassF64⟩]

/-- Opcode group 12: U32 (30_encoding.md R93). -/
def opcodeGroupC : List OpcodeRow :=
  [⟨0xC0, .vCmpFU32⟩,
   ⟨0xC1, .vCmpLtU32⟩,
   ⟨0xC2, .vCmpEqU32⟩,
   ⟨0xC3, .vCmpLeU32⟩,
   ⟨0xC4, .vCmpGtU32⟩,
   ⟨0xC5, .vCmpLgU32⟩,
   ⟨0xC6, .vCmpGeU32⟩,
   ⟨0xC7, .vCmpTU32⟩]

/-- Opcode group 13: U32, EXEC-writing (30_encoding.md R93). -/
def opcodeGroupD : List OpcodeRow :=
  [⟨0xD0, .vCmpxFU32⟩,
   ⟨0xD1, .vCmpxLtU32⟩,
   ⟨0xD2, .vCmpxEqU32⟩,
   ⟨0xD3, .vCmpxLeU32⟩,
   ⟨0xD4, .vCmpxGtU32⟩,
   ⟨0xD5, .vCmpxLgU32⟩,
   ⟨0xD6, .vCmpxGeU32⟩,
   ⟨0xD7, .vCmpxTU32⟩]

/-- Opcode group 14: U64 (30_encoding.md R93). -/
def opcodeGroupE : List OpcodeRow :=
  [⟨0xE0, .vCmpFU64⟩,
   ⟨0xE1, .vCmpLtU64⟩,
   ⟨0xE2, .vCmpEqU64⟩,
   ⟨0xE3, .vCmpLeU64⟩,
   ⟨0xE4, .vCmpGtU64⟩,
   ⟨0xE5, .vCmpLgU64⟩,
   ⟨0xE6, .vCmpGeU64⟩,
   ⟨0xE7, .vCmpTU64⟩]

/-- Opcode group 15: U64, EXEC-writing (30_encoding.md R93). -/
def opcodeGroupF : List OpcodeRow :=
  [⟨0xF0, .vCmpxFU64⟩,
   ⟨0xF1, .vCmpxLtU64⟩,
   ⟨0xF2, .vCmpxEqU64⟩,
   ⟨0xF3, .vCmpxLeU64⟩,
   ⟨0xF4, .vCmpxGtU64⟩,
   ⟨0xF5, .vCmpxLgU64⟩,
   ⟨0xF6, .vCmpxGeU64⟩,
   ⟨0xF7, .vCmpxTU64⟩]

/-- The whole map: 196 rows in opcode order. -/
def opcodeRows : List OpcodeRow :=
  opcodeGroup0 ++ opcodeGroup1 ++ opcodeGroup2 ++ opcodeGroup3 ++
  opcodeGroup4 ++ opcodeGroup5 ++ opcodeGroup6 ++ opcodeGroup7 ++
  opcodeGroup8 ++ opcodeGroup9 ++ opcodeGroupA ++ opcodeGroupB ++
  opcodeGroupC ++ opcodeGroupD ++ opcodeGroupE ++ opcodeGroupF

/-- The row of an opcode, if the map lists one (30_encoding.md R93, R97). -/
def findRow (op : Nat) : Option OpcodeRow := opcodeRows.find? fun row => row.opcode == op

/-- The operand width an opcode selects: bit 5 is 1 exactly for the 64-bit types (30_encoding.md R93's regularities, R85). -/
def opcodeWidth (op : Nat) : Width := if op / 32 % 2 = 1 then .b64 else .b32

/-- Whether an opcode is one of the two `_F64` class tests, whose 64-bit SRC1 is a class mask (30_encoding.md R88, R96). -/
def opcodeHasMask64 (op : Nat) : Bool := op == 0xA8 || op == 0xB8

end Sys2Proof
end

