-- ==== Sys2Proof/WellFormed.lean ====
section
/-! DEFINITION. Well-formed instructions: those whose operands the spec admits (30_encoding.md R100). -/

namespace Sys2Proof

/-- Why an instruction is ill-formed under a configuration, if it is (30_encoding.md R81 to R92, R99). -/
def Instr.check (cfg : Config) (i : Instr) : Option Reject :=
  admitForm cfg (opcodeWidth i.opcode) (opcodeHasMask64 i.opcode) i.form

/-- A well-formed instruction (30_encoding.md R100). -/
abbrev Instr.WellFormed (cfg : Config) (i : Instr) : Prop := i.check cfg = none

end Sys2Proof
end

