-- ==== Sys2Proof/Decode.lean ====
section
/-! DEFINITION. Decoding of instruction bytes and the encoder (30_encoding.md R70 to R101, 20_memory.md R51). Decoding is total:
any bytes give an instruction and the bytes after it, or a refusal by name in R99's order of checks. -/

namespace Sys2Proof

/-- `w[lo + n - 1 : lo]` as an unsigned integer (00_scope.md R5). -/
def field (w : Word) (lo n : Nat) : Nat := w.toNat / 2 ^ lo % 2 ^ n

/-- A field of `n` bits holds a value below `2 ^ n` (00_scope.md R5). -/
theorem field_lt (w : Word) (lo n : Nat) : field w lo n < 2 ^ n := Nat.mod_lt _ (Nat.two_pow_pos n)

/-- The little-endian word of four bytes, `b0` at the lowest address (20_memory.md R51). -/
def wordOfBytes (b0 b1 b2 b3 : Byte) : Word :=
  BitVec.ofNat 32 (b0.toNat + 256 * b1.toNat + 65536 * b2.toNat + 16777216 * b3.toNat)

/-- The four bytes of a word, lowest address first (20_memory.md R51). -/
def bytesOfWord (w : Word) : List Byte :=
  [BitVec.ofNat 8 (field w 0 8), BitVec.ofNat 8 (field w 8 8), BitVec.ofNat 8 (field w 16 8), BitVec.ofNat 8 (field w 24 8)]

/-- The first word of a run of bytes and what follows it; `none` where fewer than four bytes are left. -/
def takeWord : List Byte → Option (Word × List Byte)
  | b0 :: b1 :: b2 :: b3 :: rest => some (wordOfBytes b0 b1 b2 b3, rest)
  | _ => none

/-- The inline floats by operand code (30_encoding.md R81). -/
def decodeInlineFloat : Nat → Option InlineFloat
  | 240 => some .half
  | 241 => some .negHalf
  | 242 => some .one
  | 243 => some .negOne
  | 244 => some .two
  | 245 => some .negTwo
  | 246 => some .four
  | 247 => some .negFour
  | _ => none

/-- The operand a 9-bit source code names (30_encoding.md R81); `lit` is the literal word where the form carries one (R86). -/
def parseSrc (code : Nat) (lit : Option Word) : Except Reject Src :=
  if h : code < 104 then .ok (.sgpr ⟨code, h⟩)
  else if code = 106 then .ok .vccLo
  else if code = 107 then .ok .vccHi
  else if code = 124 then .ok .m0
  else if code = 126 then .ok .execLo
  else if code = 127 then .ok .execHi
  else if 128 ≤ code ∧ code ≤ 192 then .ok (.inlineInt ((code : Int) - 128))
  else if 193 ≤ code ∧ code ≤ 208 then .ok (.inlineInt (192 - (code : Int)))
  else if code = 254 then .error .ldsDirect
  else if code = 255 then
    match lit with
    | some w => .ok (.literal w)
    | none => .error .literalNotAdmitted
  else if h : 256 ≤ code ∧ code < 512 then .ok (.vgpr ⟨code - 256, by omega⟩)
  else match decodeInlineFloat code with
    | some c => .ok (.inlineFloat c)
    | none => .error .operandCodeRefused

/-- The destination an 8-bit SDST field names (30_encoding.md R90). -/
def parseSdst (code : Nat) : Except Reject Sdst :=
  if h : code < 104 then .ok (.pair ⟨code, h⟩)
  else if code = 106 then .ok .vcc
  else .error .destinationRefused

/-- `x` where no check refused it. -/
def passing {α : Type} (check : Option Reject) (x : α) : Except Reject α :=
  match check with
  | none => .ok x
  | some why => .error why

/-- The row an opcode field selects: the map of GCN 1.0/1.1 (30_encoding.md R93, R97), or on GCN 1.2 the row that the configured
map names (R76).
DEDUCED: on GCN 1.2 an opcode the configured map does not list is unlisted, safe; log 10. -/
def selectRow (cfg : Config) (op : Nat) : Except Reject OpcodeRow :=
  let target := if cfg.version = .v1_2 then cfg.gcn12Map.lookup op else some op
  match target.bind findRow with
  | some row => .ok row
  | none => .error .unlistedOpcode

/-- The source named by a code, parsed and admitted. -/
def decodeSrc (cfg : Config) (w : Width) (litOk mask : Bool) (code : Nat) (lit : Option Word) : Except Reject Src :=
  (parseSrc code lit).bind fun src => passing (admitSrc cfg w litOk mask src) src

/-- The instruction of a VOPC word (30_encoding.md R70, R80, R82), with its literal where SRC0 is 255. -/
def decodeVopc (cfg : Config) (w : Word) (lit : Option Word) : Except Reject Instr :=
  (selectRow cfg (field w 17 8)).bind fun row =>
  (decodeSrc cfg (opcodeWidth row.opcode) true false (field w 0 9) lit).bind fun src0 =>
  let vsrc1 : VgprNum := ⟨field w 9 8, field_lt w 9 8⟩
  passing (admitSrc cfg (opcodeWidth row.opcode) false (opcodeHasMask64 row.opcode) (.vgpr vsrc1))
    (row.build (.vopc src0 vsrc1))

/-- The OPCODE field of a VOP3 word: 9 bits from bit 17, on GCN 1.2 10 bits from bit 16 (30_encoding.md R72, R73). -/
def vop3Opcode (cfg : Config) (lo : Word) : Nat :=
  if cfg.version = .v1_2 then field lo 16 10 else field lo 17 9

/-- The fields of a VOP3A word that must be zero: ABS[2], CLAMP and the unlisted bits of the first word, SRC2, OMOD and NEG[2] of the
second (30_encoding.md R77, R98). CLAMP and the unlisted bits are bits 11-16, on GCN 1.2 bits 11-15 (R72, R73). -/
def mustBeZero (cfg : Config) (lo hi : Word) : Bool :=
  field lo 10 1 == 0 && (if cfg.version = .v1_2 then field lo 11 5 == 0 else field lo 11 6 == 0) &&
  field hi 18 9 == 0 && field hi 27 2 == 0 && field hi 31 1 == 0

/-- ABS and NEG, one bit per source (30_encoding.md R89). -/
def decodeMods (lo hi : Word) : Mods where
  abs0 := field lo 8 1 == 1
  abs1 := field lo 9 1 == 1
  neg0 := field hi 29 1 == 1
  neg1 := field hi 30 1 == 1

/-- The instruction of a VOP3A word pair (30_encoding.md R72 to R78, R89 to R92). -/
def decodeVop3 (cfg : Config) (lo hi : Word) : Except Reject Instr :=
  if cfg.version ≠ .v1_2 ∧ 255 < vop3Opcode cfg lo then .error .vop3OpcodeOutOfScope
  else if !mustBeZero cfg lo hi then .error .unsupportedModifier
  else
    (selectRow cfg (vop3Opcode cfg lo)).bind fun row =>
    (decodeSrc cfg (opcodeWidth row.opcode) false false (field hi 0 9) none).bind fun src0 =>
    (decodeSrc cfg (opcodeWidth row.opcode) false (opcodeHasMask64 row.opcode) (field hi 9 9) none).bind fun src1 =>
    (parseSdst (field lo 0 8)).bind fun sdst =>
    (passing (admitSdst cfg sdst) sdst).bind fun sdst =>
    passing (admitScalars src0 src1) (row.build (.vop3 sdst (decodeMods lo hi) src0 src1))

/-- A decoded instruction with the bytes that follow it. -/
def withRest (r : Except Reject Instr) (rest : List Byte) : Except Reject (Instr × List Byte) :=
  r.map fun i => (i, rest)

/-- The decode procedure (30_encoding.md R79) in R99's order of checks: version, first word, format, second word, then the fields. -/
def decode (cfg : Config) (bytes : List Byte) : Except Reject (Instr × List Byte) :=
  if cfg.version = .v1_2 ∧ cfg.gcn12Map = [] then .error .gcn12OpcodeMapEmpty
  else match takeWord bytes with
    | none => .error .fetchOutsideProgram
    | some (w, rest) =>
      if field w 25 7 = 0x3E then
        if field w 0 9 = 255 then
          match takeWord rest with
          | none => .error .fetchOutsideProgram
          | some (lit, rest') => withRest (decodeVopc cfg w (some lit)) rest'
        else withRest (decodeVopc cfg w none) rest
      else if field w 26 6 = 0x34 then
        match takeWord rest with
        | none => .error .fetchOutsideProgram
        | some (hi, rest') => withRest (decodeVop3 cfg w hi) rest'
      else .error .encodingOutOfScope

/-- The operand code of an inline float (30_encoding.md R81). -/
def InlineFloat.code : InlineFloat → Nat
  | .half => 240
  | .negHalf => 241
  | .one => 242
  | .negOne => 243
  | .two => 244
  | .negTwo => 245
  | .four => 246
  | .negFour => 247

/-- The operand code of a source (30_encoding.md R81). -/
def Src.code : Src → Nat
  | .sgpr n => n.val
  | .vccLo => 106
  | .vccHi => 107
  | .m0 => 124
  | .execLo => 126
  | .execHi => 127
  | .inlineInt i => if 0 ≤ i then 128 + i.toNat else 192 + (-i).toNat
  | .inlineFloat c => c.code
  | .literal _ => 255
  | .vgpr n => 256 + n.val

/-- The SDST field of a destination (30_encoding.md R90). -/
def Sdst.code : Sdst → Nat
  | .pair n => n.val
  | .vcc => 106

/-- The VOPC word of the fields SRC0, VSRC1 and OPCODE (30_encoding.md R70). -/
def vopcWord (src0 vsrc1 op : Nat) : Word :=
  BitVec.ofNat 32 (src0 + vsrc1 * 2 ^ 9 + op * 2 ^ 17 + 0x3E * 2 ^ 25)

/-- The first VOP3A word on GCN 1.0/1.1 of the fields SDST, ABS and OPCODE (30_encoding.md R72). -/
def vop3Lo (sdst : Nat) (mods : Mods) (op : Nat) : Word :=
  BitVec.ofNat 32 (sdst + mods.abs0.toNat * 2 ^ 8 + mods.abs1.toNat * 2 ^ 9 + op * 2 ^ 17 + 0x34 * 2 ^ 26)

/-- The second VOP3A word of the fields SRC0, SRC1 and NEG (30_encoding.md R72). -/
def vop3Hi (mods : Mods) (src0 src1 : Nat) : Word :=
  BitVec.ofNat 32 (src0 + src1 * 2 ^ 9 + mods.neg0.toNat * 2 ^ 29 + mods.neg1.toNat * 2 ^ 30)

/-- The literal word a source carries, if any (30_encoding.md R86). -/
def Src.literalWords : Src → List Word
  | .literal w => [w]
  | _ => []

/-- The words of an instruction on GCN 1.0/1.1, the lowest address first (30_encoding.md R70, R72, R86). -/
def encodeWords (i : Instr) : List Word :=
  match i.form with
  | .vopc src0 vsrc1 => vopcWord src0.code vsrc1 i.opcode :: src0.literalWords
  | .vop3 sdst mods src0 src1 => [vop3Lo sdst.code mods i.opcode, vop3Hi mods src0.code src1.code]

/-- The bytes of an instruction on GCN 1.0/1.1 (20_memory.md R51). -/
def encode (i : Instr) : List Byte := (encodeWords i).flatMap bytesOfWord

/-- The eight bytes that hold the instruction whose low `nbits` bits are `w` and whose other bits are zero, in memory order
(20_memory.md R51: bits 0-7 in the byte at the lowest address). -/
def tableBytes (nbits w : Nat) : List Byte :=
  (List.range 8).map fun k => BitVec.ofNat 8 (w % 2 ^ nbits / 2 ^ (8 * k) % 2 ^ 8)

/-- The instruction the decoder reads from the bits of an opcode-table row, under the default configuration. -/
def decodeTableWord (nbits w : Nat) : Option Instr :=
  match decode .default (tableBytes nbits w) with
  | .ok (i, _) => some i
  | .error _ => none

end Sys2Proof
end

