-- ==== Sys2Proof/Machine/Fetch.lean ====
section
/-! DEFINITION. Instruction fetch (20_memory.md R50, R51, R54) and the conditions under which no instruction is fetched
(70_reset_and_hazards.md R544). -/

namespace Sys2Proof.Machine

/-- The bytes a fetch at the pc finds, 8 at most: those of PROGRAM, and none outside `[PROGRAM_BASE, PROGRAM_END)` (20_memory.md R50).
DESIGN CHOICE, safe: in a state of no launch whose listed bytes have a gap, PROGRAM_END is the base plus their number, and the bytes
found end at the gap; log 19. -/
def State.fetchBytes (s : State) : List Byte :=
  if s.programBase ≤ s.pc then Memory.readRun s.mem s.pc (min 8 (s.programEnd - s.pc)) else []

/-- The instruction at the pc, or the label of its refusal (30_encoding.md R79, R99); a word with a byte outside the program is a
refused fetch (20_memory.md R50). -/
def fetchInstr (s : State) : Except Reject Instr := (decode s.config s.fetchBytes).map Prod.fst

/-- The run is over: `pc = PROGRAM_END` (70_reset_and_hazards.md R544). -/
def atProgramEnd (s : State) : Bool := s.pc == s.programEnd

/-- Why no instruction is fetched, if none is: a misaligned launch (20_memory.md R54), a misaligned pc, or the end of the run (R544).
DESIGN CHOICE, safe: the end of the run is a refusal of its own name; log 6. A misaligned pc is refused; log 12. -/
def noFetch (s : State) : Option Refusal :=
  if s.programBase % 4 ≠ 0 then some .misalignedBase
  else if s.pc % 4 ≠ 0 then some .misalignedPc
  else if atProgramEnd s then some .runEnded
  else none

end Sys2Proof.Machine
end

