-- ==== Sys2Proof/Machine/Step.lean ====
section
/-! DEFINITION. One step of the wavefront: fetch, decode, execute (40_vopc_common.md R120). -/

namespace Sys2Proof.Machine

/-- One step: the instruction at the pc is decoded and executed; an instruction moves the pc itself (R120 step 7). -/
def step (s : State) : Host.Outcome State Fault Refusal :=
  match noFetch s with
  | some why => .refused why
  | none =>
    match fetchInstr s with
    | .error why => .refused (.rejected why)
    | .ok i => exec i s

/-- The load of one instruction at the pc: its bits, with zeros up to 8 bytes, the longest instruction (log 5). PROGRAM_END follows
from the bytes loaded, so that from reset, and from every state of a run (`Launched`), the next step fetches exactly it. -/
def State.withFetchWord (s : State) (nbits w : Nat) : State :=
  { s with mem := Memory.load s.mem s.pc (tableBytes nbits w) }

end Sys2Proof.Machine
end

