-- ==== Sys2Proof/Safety.lean ====
section
/-! DEFINITION. What counts as a safe run, the launch premise, and the invariant of the states a launch reaches (60_exceptions.md R503,
70_reset_and_hazards.md R541, R544). -/

namespace Sys2Proof.Machine

/-- A step goes wrong when it faults; a refusal gives the step no meaning and is no fault (60_exceptions.md R503). -/
def stepFaults (s : State) : Prop := ∃ f, step s = .fault f

/-- A final state: the run is over (70_reset_and_hazards.md R544). -/
abbrev Final (s : State) : Prop := s.pc = s.programEnd

/-- `k` steps from `s` reach `t` with no fault and no refusal. -/
def Reaches (k : Nat) (s t : State) : Prop := Host.Core.run Sys2Proof.core k s = .next t

/-- The addresses of the listed bytes count up from `base` without a gap: PROGRAM placed at PROGRAM_BASE (20_memory.md R50). -/
def Memory.placedAt : Memory → Nat → Bool
  | [], _ => true
  | (k, _) :: m, base => k == base && Memory.placedAt m (base + 1)

/-- The launch premise (70_reset_and_hazards.md R541, R540; 10_state.md R32): (a) PROGRAM placed at an aligned PROGRAM_BASE, where the
pc starts, and (e) SIGNAL = 0. The rest of a launch is free: (b) EXEC, (c) the registers, their values and which hold one, (d) the
configuration. No fault or refusal is ever recorded in a State: both are outcomes of a step. -/
structure Launch (s : State) : Prop where
  base_aligned : s.programBase % 4 = 0
  placed : Memory.placedAt s.mem s.programBase = true
  pc_at_base : s.pc = s.programBase
  signal_clear : s.signal = false

/-- The states of a run a launch allows: the program placed at an aligned base, the pc aligned and within it or at its end
(20_memory.md R50, R54; 10_state.md R29; 70_reset_and_hazards.md R541, R544). -/
structure Launched (s : State) : Prop where
  base_aligned : s.programBase % 4 = 0
  placed : Memory.placedAt s.mem s.programBase = true
  pc_aligned : s.pc % 4 = 0
  base_le_pc : s.programBase ≤ s.pc
  pc_le_end : s.pc ≤ s.programEnd

end Sys2Proof.Machine
end

