-- ==== Sys2Proof/Claims.lean ====
section
/-! DEFINITION. The terms the claims are stated in: the spec's own tables, written from the spec and not from the meanings, and
what a completed compare leaves. -/

namespace Sys2Proof.Machine

/-- Rows 0 to 15 of the OP16 table, each as the four bits of its columns LT, EQ, GT, UN (40_vopc_common.md R130). -/
def op16Rows : List Nat :=
  [0b0000, 0b1000, 0b0100, 0b1100, 0b0010, 0b1010, 0b0110, 0b1110,
   0b0001, 0b1001, 0b0101, 0b1101, 0b0011, 0b1011, 0b0111, 0b1111]

/-- The entry of the OP16 table for an offset and a relation. -/
def op16Entry (k : Nat) (r : Relation) : Bool :=
  (op16Rows.getD k 0).testBit (match r with
    | .lt => 3
    | .eq => 2
    | .gt => 1
    | .un => 0)

/-- The lane result of the floating-point operation at offset `k`, the two operands already modified: the table's entry, with the
denormals as DENORM_MODE says and offset 8 as U_READING says (40_vopc_common.md R130, R134). -/
def floatBit {n : Nat} (fmt : FpFormat) (denorm : DenormMode) (reading : UReading) (k : Nat) (a b : BitVec n) : Bool :=
  if k = 8 ∧ reading = .asPrinted then
    !(isNaN fmt (flushDenorm denorm fmt a) && isNaN fmt (flushDenorm denorm fmt b))
  else op16Entry k (fpRelation fmt (flushDenorm denorm fmt a) (flushDenorm denorm fmt b))

/-- Whether a floating-point compare of opcode `op` signals on two operands: on a signalling NaN below 64, on any NaN from 64 on
(40_vopc_common.md R131). -/
def floatSig {n : Nat} (fmt : FpFormat) (op : Nat) (a b : BitVec n) : Bool :=
  if op < 64 then isSNaN fmt a || isSNaN fmt b else isNaN fmt a || isNaN fmt b

/-- Rows 0 to 7 of the OP8 table, each as the three bits of its columns a < b, a = b, a > b (40_vopc_common.md R133). -/
def op8Rows : List Nat := [0b000, 0b100, 0b010, 0b110, 0b001, 0b101, 0b011, 0b111]

/-- The entry of the OP8 table for an offset and two integers. -/
def op8Entry (k : Nat) (a b : Int) : Bool :=
  (op8Rows.getD k 0).testBit (if a < b then 2 else if a = b then 1 else 0)

/-- The lane result of the integer compare of opcode `op` (30_encoding.md R93, R95: bit 6 set for the unsigned types). -/
def intBit {n : Nat} (op : Nat) (a b : BitVec n) : Bool :=
  if op / 64 % 2 = 1 then op8Entry (op % 8) a.toNat b.toNat else op8Entry (op % 8) a.toInt b.toInt

/-- Row `k` of the class table (40_vopc_common.md R135): the patterns of the class with mask bit `k`. -/
def classRow {n : Nat} (fmt : FpFormat) (k : Nat) (x : BitVec n) : Bool :=
  let s := fpSign fmt x
  let e := fpExp fmt x
  let f := fpFrac fmt x
  let emax := fpExpMax fmt
  let quiet := x.getLsbD (fmt.fracBits - 1)
  match k with
  | 0 => e == emax && f != 0 && !quiet
  | 1 => e == emax && quiet
  | 2 => s && e == emax && f == 0
  | 3 => s && decide (0 < e ∧ e < emax)
  | 4 => s && e == 0 && f != 0
  | 5 => s && e == 0 && f == 0
  | 6 => !s && e == 0 && f == 0
  | 7 => !s && e == 0 && f != 0
  | 8 => !s && decide (0 < e ∧ e < emax)
  | 9 => !s && e == emax && f == 0
  | _ => false

/-- The lane result of a class test: the pattern belongs to a class whose bit the mask has set (40_vopc_common.md R136). -/
def classLaneBit {n : Nat} (fmt : FpFormat) (a b : BitVec n) : Bool :=
  (List.range 10).any fun k => classRow fmt k a && b.getLsbD k

/-- The instruction is a floating-point compare (30_encoding.md R93). -/
abbrev isFloatOp (op : Nat) : Prop := op < 128

/-- The instruction is one of the four class tests (30_encoding.md R96). -/
abbrev isClassOp (op : Nat) : Prop := op = 0x88 ∨ op = 0x98 ∨ op = 0xA8 ∨ op = 0xB8

/-- The 60 opcodes of 30_encoding.md R97. -/
def unlistedOp (op : Nat) : Bool :=
  decide (137 ≤ op ∧ op ≤ 143 ∨ 153 ≤ op ∧ op ≤ 159 ∨ 169 ≤ op ∧ op ≤ 175 ∨ 185 ≤ op ∧ op ≤ 191 ∨
    200 ≤ op ∧ op ≤ 207 ∨ 216 ≤ op ∧ op ≤ 223 ∨ 232 ≤ op ∧ op ≤ 239 ∨ 248 ≤ op ∧ op ≤ 255)

/-- The truth value of the instruction's operation in lane `L` (40_vopc_common.md R124). -/
def laneResult (i : Instr) (s : State) (L : Nat) : Bool :=
  let op := i.opcode
  let a32 := operand0 .b32 s i.form L
  let b32 := operand1 .b32 s i.form L
  let a64 := operand0 .b64 s i.form L
  let b64 := operand1 .b64 s i.form L
  if op < 128 then
    if op / 32 % 2 = 0 then floatBit binary32 s.config.denormF32 s.config.uReading (op % 16) a32 b32
    else floatBit binary64 s.config.denormF64 s.config.uReading (op % 16) a64 b64
  else if op % 16 = 8 then
    if op / 32 % 2 = 0 then classLaneBit binary32 a32 b32 else classLaneBit binary64 a64 b64
  else
    if op / 32 % 2 = 0 then intBit op a32 b32 else intBit op a64 b64

/-- Whether the instruction signals in lane `L` (40_vopc_common.md R131). -/
def laneSignals (i : Instr) (s : State) (L : Nat) : Bool :=
  let op := i.opcode
  if op < 128 then
    if op / 32 % 2 = 0 then floatSig binary32 op (operand0 .b32 s i.form L) (operand1 .b32 s i.form L)
    else floatSig binary64 op (operand0 .b64 s i.form L) (operand1 .b64 s i.form L)
  else false

/-- Whether an executing lane signals (40_vopc_common.md R120 step 4). -/
def someLaneSignals (s : State) (sig : Nat → Bool) : Prop :=
  ∃ L, L < 64 ∧ s.execMask.getLsbD L = true ∧ sig L = true

/-- Bit `L` of the destination mask as software finds it (10_state.md R28). -/
def destBit (t : State) (dest : Sdst) (L : Nat) : Bool :=
  match dest with
  | .vcc => t.vcc.getLsbD L
  | .pair n => if L < 32 then (t.sgpr n).getLsbD L else (t.sgpr (n + 1)).getLsbD (L - 32)

/-- Whether both registers of the destination hold a value (10_state.md R31). -/
def destHolds (t : State) (dest : Sdst) : Bool :=
  match dest with
  | .vcc => t.vccLoHas && t.vccHiHas
  | .pair n => t.sgprHolds n && t.sgprHolds (n + 1)

/-- What every compare leaves unchanged (10_state.md R24, R35): VGPRs, M0, instruction memory, the launch's parameters, VCC unless it
is the destination, and every SGPR outside the destination pair; of each register its value and whether it holds one (R31). -/
structure CompareFrame (s t : State) (dest : Sdst) : Prop where
  vgprs : t.vgprs = s.vgprs
  vgprsHold : t.vgprHas = s.vgprHas
  m0 : t.m0 = s.m0
  m0Holds : t.m0Has = s.m0Has
  memory : ∀ a, Memory.read t.mem a = Memory.read s.mem a
  programBase : t.programBase = s.programBase
  config : t.config = s.config
  vcc : dest ≠ .vcc → t.vcc = s.vcc
  vccHolds : dest ≠ .vcc → t.vccLoHas = s.vccLoHas ∧ t.vccHiHas = s.vccHiHas
  sgprs : ∀ k, (∀ n, dest = .pair n → k ≠ n.val ∧ k ≠ n.val + 1) → t.sgpr k = s.sgpr k
  sgprsHold : ∀ k, (∀ n, dest = .pair n → k ≠ n.val ∧ k ≠ n.val + 1) → t.sgprHolds k = s.sgprHolds k

/-- What a completed compare leaves: all 64 destination bits, in registers that now hold a value, EXEC, SIGNAL, the pc, and the frame
(40_vopc_common.md R120).
`bit` and `sig` are a lane's result and signal, read from the old state. -/
structure CompareDone (s t : State) (i : Instr) (bit sig : Nat → Bool) : Prop where
  dest : ∀ L, L < 64 → destBit t i.form.dest L = (s.execMask.getLsbD L && bit L)
  destHolds : destHolds t i.form.dest = true
  exec : ∀ L, L < 64 → t.execMask.getLsbD L =
    (s.execMask.getLsbD L && (bit L || decide (i.opcode / 16 % 2 = 0)))
  signal : t.signal = true ↔ s.signal = true ∨ someLaneSignals s sig
  pc : t.pc = s.pc + i.form.length
  frame : CompareFrame s t i.form.dest

/-- Both operands of the instruction hold a value in every executing lane (10_state.md R31, 60_exceptions.md R505 (2)). -/
abbrev Readable (i : Instr) (s : State) : Prop :=
  ∀ L, L < 64 → s.execMask.getLsbD L = true → operandsHold (opcodeWidth i.opcode) s i.form L = true

/-- The conditions under which an instruction executes: its operands are admitted (30_encoding.md R100), the next pc fits PC_WIDTH
(10_state.md R29), and its operands hold a value in every executing lane (R31). -/
abbrev Executes (i : Instr) (s : State) : Prop :=
  i.WellFormed s.config ∧ pcFits s.config (s.pc + i.form.length) = true ∧ Readable i s

/-- Every register holds a value (10_state.md R31), as at reset (log 4). -/
structure AllHold (s : State) : Prop where
  sgprs : ∀ n, n < 104 → s.sgprHolds n = true
  vgprs : ∀ n L, n < 256 → L < 64 → s.vgprHolds n L = true
  vccLo : s.vccLoHas = true
  vccHi : s.vccHiHas = true
  m0 : s.m0Has = true

/-- The first word of an instruction that goes on in a second one: a VOPC word whose SRC0 is the literal, or a VOP3 word
(30_encoding.md R79, R86). -/
abbrev wantsSecondWord (w : Word) : Prop := field w 25 7 = 0x3E ∧ field w 0 9 = 255 ∨ field w 26 6 = 0x34

/-- The instruction made its writes and reached `t`, whether the run goes on or stops in the signal's fault. -/
def Wrote (i : Instr) (s t : State) : Prop := exec i s = .next t ∨ exec i s = .fault (.signal t)

/-- A pattern of `n` bits as sign and magnitude: the order of IEEE-754 patterns that are no NaN (40_vopc_common.md R132). -/
def signMagnitude {n : Nat} (x : BitVec n) : Int :=
  if x.getLsbD (n - 1) then -((x.toNat % 2 ^ (n - 1) : Nat) : Int) else (x.toNat % 2 ^ (n - 1) : Nat)

/-- The first VOP3A word on GCN 1.2 of the fields SDST, ABS and a 10-bit OPCODE (30_encoding.md R73). -/
def vop3Lo12 (sdst : Nat) (mods : Mods) (op : Nat) : Word :=
  BitVec.ofNat 32 (sdst + mods.abs0.toNat * 2 ^ 8 + mods.abs1.toNat * 2 ^ 9 + op * 2 ^ 16 + 0x34 * 2 ^ 26)

/-- The words of an instruction on GCN 1.2 under the opcode `op` (30_encoding.md R70, R73, R76). -/
def encodeWords12 (op : Nat) (i : Instr) : List Word :=
  match i.form with
  | .vopc src0 vsrc1 => vopcWord src0.code vsrc1 op :: src0.literalWords
  | .vop3 sdst mods src0 src1 => [vop3Lo12 sdst.code mods op, vop3Hi mods src0.code src1.code]

/-- The largest opcode number the form's OPCODE field holds on GCN 1.2, plus one (30_encoding.md R70, R73). -/
def opcodeLimit12 : Form → Nat
  | .vopc _ _ => 256
  | .vop3 _ _ _ _ => 1024

end Sys2Proof.Machine
end

