-- ==== Sys2Proof/Certificates/Slice0/Obligations.lean ====
section
/-! DEFINITION. The statements about the machine: encoding, the step, every instruction's completion, the frame, the run, and the
rules of the spec that hold of all instructions at once. -/

open Sys2Proof Sys2Proof.Machine

/-- Encoding then decoding gives the instruction and the bytes after it: every well-formed instruction, every operand (30_encoding.md
R70, R72, R79 to R92; 20_memory.md R51). -/
def Obligations.DecodeOfEncodeIsIdentity : Prop :=
  ∀ (cfg : Config) (i : Instr) (rest : List Byte), cfg.mapped → i.WellFormed cfg →
    decode cfg (encode i ++ rest) = .ok (i, rest)

/-- Bytes that decode are the encoding of what they decode to: no bit is ignored, none has two meanings (30_encoding.md R70, R72, R77,
R98). -/
def Obligations.EncodeOfDecodeGivesBytesBack : Prop :=
  ∀ (cfg : Config) (bytes rest : List Byte) (i : Instr), cfg.mapped → decode cfg bytes = .ok (i, rest) →
    encode i ++ rest = bytes

/-- The decoder admits well-formed instructions only, and an instruction takes 4 or 8 bytes as its form says (30_encoding.md R79,
R100; 10_state.md R29). -/
def Obligations.DecodedInstructionIsWellFormed : Prop :=
  ∀ (cfg : Config) (bytes rest : List Byte) (i : Instr), decode cfg bytes = .ok (i, rest) →
    i.WellFormed cfg ∧ bytes.length = i.form.length + rest.length ∧ (i.form.length = 4 ∨ i.form.length = 8)

/-- The GCN 1.2 layout: with the opcode in bits 16 to 25 and a configured map, the words of a well-formed instruction decode to it
(30_encoding.md R73, R76). That the VOPC form uses the map too is the model's choice (log 10). -/
def Obligations.Gcn12LayoutRoundTrips : Prop :=
  ∀ (cfg : Config) (i : Instr) (op : Nat) (rest : List Byte), cfg.version = .v1_2 →
    cfg.gcn12Map.lookup op = some i.opcode → op < opcodeLimit12 i.form → i.WellFormed cfg →
    decode cfg ((encodeWords12 op i).flatMap bytesOfWord ++ rest) = .ok (i, rest)

/-- 30_encoding.md R70: the four fields of a VOPC word tile it, and from a word whose ENCODING is `0x3E`, and from no other, the
decoder reads a VOPC instruction with SRC0, VSRC1 and OPCODE from bits 0-8, 9-16 and 17-24. -/
def Obligations.VopcWordFieldsTile : Prop :=
  (∀ w : Word, w.toNat = field w 0 9 + field w 9 8 * 2 ^ 9 + field w 17 8 * 2 ^ 17 + field w 25 7 * 2 ^ 25) ∧
  ∀ (cfg : Config) (w : Word) (tail rest : List Byte) (i : Instr), cfg.mapped →
    decode cfg (bytesOfWord w ++ tail) = .ok (i, rest) →
    ((∃ src0 vsrc1, i.form = .vopc src0 vsrc1) ↔ field w 25 7 = 0x3E) ∧
    ∀ (src0 : Src) (vsrc1 : VgprNum), i.form = .vopc src0 vsrc1 →
      src0.code = field w 0 9 ∧ vsrc1.val = field w 9 8 ∧ i.opcode = field w 17 8

/-- 30_encoding.md R78: one opcode numbering for both encodings. The number in either OPCODE field is the instruction's, a number and
operands name one instruction, and VOP3 numbers 256 to 511 are refused. -/
def Obligations.OpcodeNumbersShared : Prop :=
  (∀ (cfg : Config) (w : Word) (tail rest : List Byte) (i : Instr), cfg.mapped →
    decode cfg (bytesOfWord w ++ tail) = .ok (i, rest) →
    i.opcode < 256 ∧ i.opcode = if field w 25 7 = 0x3E then field w 17 8 else field w 17 9) ∧
  (∀ (i j : Instr), i.opcode = j.opcode → i.form = j.form → i = j) ∧
  (∀ (cfg : Config) (lo hi : Word) (rest : List Byte), cfg.mapped → field lo 26 6 = 0x34 → 256 ≤ field lo 17 9 →
    decode cfg (bytesOfWord lo ++ bytesOfWord hi ++ rest) = .error .vop3OpcodeOutOfScope)

/-- The 60 opcodes in no table are refused in both encodings, and every other opcode below 256 selects an instruction (30_encoding.md
R93, R97). -/
def Obligations.UnlistedOpcodesRefused : Prop :=
  (∀ op, op < 256 → (findRow op = none ↔ unlistedOp op = true)) ∧
  (∀ (cfg : Config) (w : Word) (tail : List Byte), cfg.mapped → field w 25 7 = 0x3E → unlistedOp (field w 17 8) = true →
    (field w 0 9 = 255 → 4 ≤ tail.length) → decode cfg (bytesOfWord w ++ tail) = .error .unlistedOpcode) ∧
  (∀ (cfg : Config) (lo hi : Word) (rest : List Byte), cfg.mapped → field lo 26 6 = 0x34 → mustBeZero cfg lo hi = true →
    unlistedOp (field lo 17 9) = true → decode cfg (bytesOfWord lo ++ bytesOfWord hi ++ rest) = .error .unlistedOpcode)

/-- A VOP3 word of this scope with ABS[2], CLAMP, an unlisted bit, SRC2, OMOD or NEG[2] not zero is refused by that name
(30_encoding.md R77, R98). -/
def Obligations.MustBeZeroBitsRefused : Prop :=
  ∀ (cfg : Config) (lo hi : Word) (rest : List Byte), cfg.mapped → field lo 26 6 = 0x34 → field lo 17 9 < 256 →
    (field lo 10 1 ≠ 0 ∨ field lo 11 6 ≠ 0 ∨ field hi 18 9 ≠ 0 ∨ field hi 27 2 ≠ 0 ∨ field hi 31 1 ≠ 0) →
    decode cfg (bytesOfWord lo ++ bytesOfWord hi ++ rest) = .error .unsupportedModifier

/-- Words of the spec's own table decode to the instructions it gives (95_test_vectors.md §2.1). -/
def Obligations.SpecWordsDecode : Prop :=
  decodeTableWord 32 0x7C020300 = some (.vCmpLtF32 (.vopc (.vgpr 0) 1)) ∧
  decodeTableWord 32 0x7CFFFDFE = some (.vCmpsxTF64 (.vopc (.vgpr 254) 254)) ∧
  decodeTableWord 32 0x7D0C0E04 = some (.vCmpGeI32 (.vopc (.sgpr 4) 7)) ∧
  decodeTableWord 64 0x40490FDB7C0406FF = some (.vCmpEqF32 (.vopc (.literal 0x40490FDB#32) 3)) ∧
  decodeTableWord 64 0x60001502D05C0266 =
    some (.vCmpNltF64 (.vop3 (.pair 102) ⟨false, true, true, true⟩ (.vgpr 2) (.sgpr 10))) ∧
  decodeTableWord 64 0x00010700D170006A = some (.vCmpxClassF64 (.vop3 .vcc .off (.vgpr 0) (.inlineInt 3)))

/-- The inline constants of 32-bit operands by code (30_encoding.md R81, R83, R84). -/
def Obligations.InlineConstantPatterns : Prop :=
  ∀ (s : State) (L : Nat),
    (∀ k, k ≤ 64 → ∃ src, parseSrc (128 + k) none = .ok src ∧ fetch32 s src L = BitVec.ofNat 32 k) ∧
    (∀ k, 1 ≤ k → k ≤ 16 → ∃ src, parseSrc (192 + k) none = .ok src ∧ fetch32 s src L = BitVec.ofNat 32 (2 ^ 32 - k)) ∧
    (∀ k x, (k, x) ∈ [(240, 0x3F000000#32), (241, 0xBF000000#32), (242, 0x3F800000#32), (243, 0xBF800000#32),
        (244, 0x40000000#32), (245, 0xC0000000#32), (246, 0x40800000#32), (247, 0xC0800000#32)] →
      ∃ src, parseSrc k none = .ok src ∧ fetch32 s src L = x)

/-- The bits of the scalar sources: VCC_LO, VCC_HI, EXEC_LO and EXEC_HI are the halves of VCC and EXEC, M0 is M0, a literal its word
(10_state.md R23, R25 to R28; 30_encoding.md R86). -/
def Obligations.SpecialScalarSources : Prop :=
  ∀ (s : State) (L k : Nat), k < 32 →
    (fetch32 s .vccLo L).getLsbD k = s.vcc.getLsbD k ∧ (fetch32 s .vccHi L).getLsbD k = s.vcc.getLsbD (32 + k) ∧
    (fetch32 s .execLo L).getLsbD k = s.execMask.getLsbD k ∧
    (fetch32 s .execHi L).getLsbD k = s.execMask.getLsbD (32 + k) ∧
    fetch32 s .m0 L = s.m0 ∧ ∀ w, fetch32 s (.literal w) L = w

/-- A 64-bit source holds the lower-numbered register in its low half; VCC and EXEC are whole (10_state.md R22, 30_encoding.md R88). -/
def Obligations.PairsAreLowFirst : Prop :=
  ∀ (s : State) (L k : Nat), k < 32 →
    (∀ n : SgprNum, (fetch64 s (.sgpr n) L).getLsbD k = (s.sgpr n).getLsbD k ∧
      (fetch64 s (.sgpr n) L).getLsbD (32 + k) = (s.sgpr (n + 1)).getLsbD k) ∧
    (∀ n : VgprNum, (fetch64 s (.vgpr n) L).getLsbD k = (s.vgpr n L).getLsbD k ∧
      (fetch64 s (.vgpr n) L).getLsbD (32 + k) = (s.vgpr (n + 1) L).getLsbD k) ∧
    fetch64 s .vccLo L = s.vcc ∧ fetch64 s .execLo L = s.execMask

/-- Of two otherwise admitted VOP3 sources that are scalar registers, both must be the same operand code (30_encoding.md R91). -/
def Obligations.TwoScalarRegistersRefused : Prop :=
  ∀ (cfg : Config) (i : Instr) (sdst : Sdst) (mods : Mods) (src0 src1 : Src), i.form = .vop3 sdst mods src0 src1 →
    admitSrc cfg (opcodeWidth i.opcode) false false src0 = none →
    admitSrc cfg (opcodeWidth i.opcode) false (opcodeHasMask64 i.opcode) src1 = none → admitSdst cfg sdst = none →
    i.check cfg = if src0.isScalarReg = true ∧ src1.isScalarReg = true ∧ src0.code ≠ src1.code then some .twoScalarRegisters
      else none

/-- On GCN 1.2 under the empty map every word is refused (30_encoding.md R76). -/
def Obligations.Gcn12EmptyMapRefusesAll : Prop :=
  (∀ (cfg : Config) (bytes : List Byte), cfg.version = .v1_2 → cfg.gcn12Map = [] →
    decode cfg bytes = .error .gcn12OpcodeMapEmpty) ∧
  ∀ s : State, s.config.version = .v1_2 → s.config.gcn12Map = [] → noFetch s = none →
    step s = .refused (.rejected .gcn12OpcodeMapEmpty)

/-- At an aligned pc, where the bytes a fetch finds there decode, the step is the instruction's meaning; the meaning moves the pc itself
(40_vopc_common.md R120). A fetch finds no byte outside [PROGRAM_BASE, PROGRAM_END) (20_memory.md R50); what PROGRAM_END is where the
listed bytes have a gap, which no launch gives, is the model's choice (log 19). -/
def Obligations.StepRunsDecodedInstruction : Prop :=
  ∀ (s : State) (i : Instr) (rest : List Byte), s.programBase % 4 = 0 → s.pc % 4 = 0 →
    decode s.config s.fetchBytes = .ok (i, rest) → i.WellFormed s.config ∧ step s = exec i s

/-- Where the encoding of a well-formed instruction stands in [PROGRAM_BASE, PROGRAM_END) at an aligned pc, the step runs that
instruction (20_memory.md R50, R51; 40_vopc_common.md R120). What PROGRAM_END is where the listed bytes have a gap, which no launch
gives, is the model's choice (log 19). -/
def Obligations.StepRunsEncodedInstruction : Prop :=
  ∀ (s : State) (i : Instr), s.config.mapped → i.WellFormed s.config → s.programBase % 4 = 0 → s.pc % 4 = 0 →
    s.programBase ≤ s.pc → s.pc + (encode i).length ≤ s.programEnd →
    (∀ k (h : k < (encode i).length), Memory.read s.mem (s.pc + k) = some (encode i)[k]) → step s = exec i s

/-- The instruction that the decoder reads from an opcode-table word runs as the first instruction after reset, once loaded, and as
the next one in every state of a run; the load changes instruction memory only. That reset memory is empty and loaded from outside is
the model's choice (log 5). -/
def Obligations.TableWordRunsFromReset : Prop :=
  ∀ (nbits w : Nat),
    (∀ s : State, s.withFetchWord nbits w = { s with mem := (s.withFetchWord nbits w).mem }) ∧
    (∀ i, decodeTableWord nbits w = some i →
      step (State.reset.withFetchWord nbits w) = exec i (State.reset.withFetchWord nbits w)) ∧
    ∀ (s : State) (i : Instr) (rest : List Byte), Launched s → decode s.config (tableBytes nbits w) = .ok (i, rest) →
      step (s.withFetchWord nbits w) = exec i (s.withFetchWord nbits w)

/-- Every single-precision compare, opcodes 0x00-0x1F and 0x40-0x5F, completes: the destination mask, EXEC, SIGNAL, the pc and the
frame (41_vcmp_f32.md, 41_vcmpx_f32.md, 43_vcmps_f32.md, 43_vcmpsx_f32.md; 40_vopc_common.md R120 to R132, R134). -/
def Obligations.SinglePrecisionCompareCompletes : Prop :=
  ∀ (i : Instr) (s : State), i.opcode < 128 → i.opcode / 32 % 2 = 0 → Executes i s →
    (s.config.signalMode = .flag ∨ ¬ someLaneSignals s (laneSignals i s)) →
    ∃ t, exec i s = .next t ∧ CompareDone s t i (laneResult i s) (laneSignals i s)

/-- Every double-precision compare, opcodes 0x20-0x3F and 0x60-0x7F, completes (42_vcmp_f64.md, 42_vcmpx_f64.md, 44_vcmps_f64.md,
44_vcmpsx_f64.md; 40_vopc_common.md R120 to R132, R134). -/
def Obligations.DoublePrecisionCompareCompletes : Prop :=
  ∀ (i : Instr) (s : State), i.opcode < 128 → i.opcode / 32 % 2 = 1 → Executes i s →
    (s.config.signalMode = .flag ∨ ¬ someLaneSignals s (laneSignals i s)) →
    ∃ t, exec i s = .next t ∧ CompareDone s t i (laneResult i s) (laneSignals i s)

/-- Every 32-bit integer compare completes, and never signals (45_vcmp_i32.md, 46_vcmp_u32.md; 40_vopc_common.md R133). -/
def Obligations.Integer32CompareCompletes : Prop :=
  ∀ (i : Instr) (s : State), 128 ≤ i.opcode → i.opcode % 16 < 8 → i.opcode / 32 % 2 = 0 → Executes i s →
    ∃ t, exec i s = .next t ∧ t.signal = s.signal ∧ CompareDone s t i (laneResult i s) (laneSignals i s)

/-- Every 64-bit integer compare completes, and never signals (45_vcmp_i64.md, 46_vcmp_u64.md; 40_vopc_common.md R133). -/
def Obligations.Integer64CompareCompletes : Prop :=
  ∀ (i : Instr) (s : State), 128 ≤ i.opcode → i.opcode % 16 < 8 → i.opcode / 32 % 2 = 1 → Executes i s →
    ∃ t, exec i s = .next t ∧ t.signal = s.signal ∧ CompareDone s t i (laneResult i s) (laneSignals i s)

/-- Each of the four class tests completes, and never signals (47_vcmp_class.md R336, R352, R368, R384; 40_vopc_common.md R135,
R136). -/
def Obligations.ClassTestCompletes : Prop :=
  ∀ (i : Instr) (s : State), isClassOp i.opcode → Executes i s →
    ∃ t, exec i s = .next t ∧ t.signal = s.signal ∧ CompareDone s t i (laneResult i s) (laneSignals i s)

/-- Under SIGNAL_MODE = fault a compare that signals in an executing lane stops in the fault (60_exceptions.md R500, R505). That the
fault carries the state with every write made is the model's choice (log 8); R506 calls that state the spec's own choice. -/
def Obligations.SignalFaultsAfterWrites : Prop :=
  ∀ (i : Instr) (s : State), Executes i s → s.config.signalMode = .fault → someLaneSignals s (laneSignals i s) →
    ∃ t, exec i s = .fault (.signal t) ∧ CompareDone s t i (laneResult i s) (laneSignals i s)

/-- An ill-formed instruction is refused by the label of its first failed check (30_encoding.md R99, 60_exceptions.md R505). That
exec refuses a term no word decodes to is the model's choice (log 15), and so is that this comes before the pc check (log 11). -/
def Obligations.IllFormedInstructionRefused : Prop :=
  ∀ (i : Instr) (s : State) (why : Reject), i.check s.config = some why → exec i s = .refused (.rejected why)

/-- Where the next pc does not fit PC_WIDTH the step is refused (10_state.md R29); that well-formedness is checked before and operands
are read after is the model's choice (log 11). -/
def Obligations.PcOverflowRefused : Prop :=
  ∀ (i : Instr) (s : State) (k : Nat), i.WellFormed s.config → s.config.pcWidth = some k → 2 ^ k ≤ s.pc + i.form.length →
    exec i s = .refused .pcOverflow

/-- A step ends in the signal's fault only under SIGNAL_MODE = fault, running a floating-point compare that signals in an executing
lane; the integer compares and the class tests raise no signal, and their one fault is the read of a register with no value
(60_exceptions.md R500, R501, R503; 10_state.md R31). That no register is without a value at reset is the model's choice (log 4). -/
def Obligations.OnlyFloatComparesSignal : Prop :=
  (∀ s t : State, step s = .fault (.signal t) → s.config.signalMode = .fault ∧
    ∃ i rest, decode s.config s.fetchBytes = .ok (i, rest) ∧ i.opcode < 128 ∧
      someLaneSignals s (laneSignals i s)) ∧
  ∀ (i : Instr) (s : State), 128 ≤ i.opcode →
    (∀ f, exec i s = .fault f → f = .unwrittenRegister ∧ ¬ Readable i s) ∧
    ∀ t, exec i s = .next t → t.signal = s.signal

/-- An instruction faults by unwritten_register exactly when it is admitted, its next pc fits, and an operand holds no value in an
executing lane; the fault carries no state, since nothing is written (10_state.md R31; 60_exceptions.md R503, R505 (2);
40_vopc_common.md R120, R139). That the pc is checked before the operands are read is the model's choice (log 11). -/
def Obligations.UnwrittenRegisterFaults : Prop :=
  ∀ (i : Instr) (s : State), exec i s = .fault .unwrittenRegister ↔
    i.WellFormed s.config ∧ pcFits s.config (s.pc + i.form.length) = true ∧
      ∃ L, L < 64 ∧ s.execMask.getLsbD L = true ∧ operandsHold (opcodeWidth i.opcode) s i.form L = false

/-- When a source holds a value: a 32-bit source when its register does, a VGPR in the lane read; a 64-bit source when both registers
of its pair do; EXEC, an inline constant and a literal always (10_state.md R31, R22, R32; 30_encoding.md R81 to R88). -/
def Obligations.SourcesThatNeedAValue : Prop :=
  ∀ (s : State) (L : Nat),
    (∀ n : SgprNum, holds32 s (.sgpr n) L = s.sgprHolds n ∧
      (holds64 s (.sgpr n) L = true ↔ s.sgprHolds n = true ∧ s.sgprHolds (n + 1) = true)) ∧
    (∀ n : VgprNum, holds32 s (.vgpr n) L = s.vgprHolds n L ∧
      (holds64 s (.vgpr n) L = true ↔ s.vgprHolds n L = true ∧ s.vgprHolds (n + 1) L = true)) ∧
    (holds32 s .vccLo L = s.vccLoHas ∧ holds32 s .vccHi L = s.vccHiHas ∧
      (holds64 s .vccLo L = true ↔ s.vccLoHas = true ∧ s.vccHiHas = true)) ∧
    holds32 s .m0 L = s.m0Has ∧ holds32 s .execLo L = true ∧ holds32 s .execHi L = true ∧ holds64 s .execLo L = true ∧
    (∀ z, holds32 s (.inlineInt z) L = true ∧ holds64 s (.inlineInt z) L = true) ∧
    (∀ c, holds32 s (.inlineFloat c) L = true ∧ holds64 s (.inlineFloat c) L = true) ∧
    ∀ w, holds32 s (.literal w) L = true

/-- The registers that hold a value after an instruction are those that did and the ones it wrote (10_state.md R31, R24). -/
def Obligations.RegistersHoldOnceWritten : Prop :=
  ∀ (i : Instr) (s t : State), Wrote i s t →
    (∀ k, t.sgprHolds k = true ↔ s.sgprHolds k = true ∨ ∃ n, i.form.dest = .pair n ∧ (k = n.val ∨ k = n.val + 1)) ∧
    (t.vccLoHas = true ↔ s.vccLoHas = true ∨ i.form.dest = .vcc) ∧
    (t.vccHiHas = true ↔ s.vccHiHas = true ∨ i.form.dest = .vcc) ∧
    (∀ n L, t.vgprHolds n L = s.vgprHolds n L) ∧ t.m0Has = s.m0Has

/-- At reset every register holds a value (10_state.md R31 lets a launch give any set of them one). The model's choice: log 4. -/
def Obligations.AllHoldAtReset : Prop := AllHold State.reset

/-- Where every register holds a value no step faults by unwritten_register, and after the step every register still holds one
(10_state.md R31; 70_reset_and_hazards.md R542). -/
def Obligations.AllHoldKeptByStep : Prop :=
  ∀ s : State, AllHold s → step s ≠ .fault .unwrittenRegister ∧ ∀ t, step s = .next t → AllHold t

/-- 40_vopc_common.md R124: the destination bit of an executing lane is the truth value of the operation. -/
def Obligations.ExecutingLaneBitIsTruthValue : Prop :=
  ∀ (i : Instr) (s t : State) (L : Nat), Wrote i s t → L < 64 → s.execMask.getLsbD L = true →
    destBit t i.form.dest L = laneResult i s L

/-- 40_vopc_common.md R126: the VOPC form writes the mask to VCC; the VOP3 form writes it to the pair, low half first, or to VCC
when SDST names it, and else leaves VCC alone. `d` is the mask: 0 in lanes that do not execute, else the lane's result. -/
def Obligations.DestinationWriteIsWholeMask : Prop :=
  ∀ (i : Instr) (s t : State) (d : LaneMask), Wrote i s t →
    (∀ L, L < 64 → d.getLsbD L = (s.execMask.getLsbD L && laneResult i s L)) →
    (∀ src0 vsrc1, i.form = .vopc src0 vsrc1 → t.vcc = d) ∧
    (∀ mods src0 src1, i.form = .vop3 .vcc mods src0 src1 → t.vcc = d) ∧
    (∀ n mods src0 src1, i.form = .vop3 (.pair n) mods src0 src1 →
      t.sgpr n = d.extractLsb' 0 32 ∧ t.sgpr (n + 1) = d.extractLsb' 32 32 ∧ t.vcc = s.vcc)

/-- The EXEC-writing forms put the destination's mask in EXEC; the others leave EXEC unchanged (40_vopc_common.md R127, 10_state.md
R35). -/
def Obligations.ExecWrittenByXFormsOnly : Prop :=
  ∀ (i : Instr) (s t : State), Wrote i s t →
    if i.opcode / 16 % 2 = 1 then ∀ L, L < 64 → t.execMask.getLsbD L = destBit t i.form.dest L else t.execMask = s.execMask

/-- A lane that does not execute gets a 0 in the destination, whatever stood there (40_vopc_common.md R125). -/
def Obligations.IdleLaneBitIsZero : Prop :=
  ∀ (i : Instr) (s t : State) (L : Nat), Wrote i s t → L < 64 → s.execMask.getLsbD L = false →
    destBit t i.form.dest L = false

/-- Along every run EXEC only loses lanes (40_vopc_common.md R127: an EXEC-writing compare can only clear EXEC bits). -/
def Obligations.ExecOnlyLosesLanes : Prop :=
  ∀ (k : Nat) (s t : State), Reaches k s t → ∀ L, L < 64 → t.execMask.getLsbD L = true → s.execMask.getLsbD L = true

/-- Along every run the VGPRs, M0, which of them hold a value, instruction memory and the launch's parameters stay as they were
(10_state.md R24, R35, R31; 20_memory.md R53, R58; 30_encoding.md R101). -/
def Obligations.RunKeepsUnwrittenState : Prop :=
  ∀ (k : Nat) (s t : State), Reaches k s t →
    t.vgprs = s.vgprs ∧ t.vgprHas = s.vgprHas ∧ t.m0 = s.m0 ∧ t.m0Has = s.m0Has ∧
    (∀ a, Memory.read t.mem a = Memory.read s.mem a) ∧ t.mem = s.mem ∧
    t.programBase = s.programBase ∧ t.config = s.config

/-- SIGNAL is sticky, and a step sets it exactly when it ran a floating-point compare that signals in an executing lane
(10_state.md R30, 40_vopc_common.md R131). -/
def Obligations.SignalIsSticky : Prop :=
  ∀ (s t : State), step s = .next t → ∀ i rest, decode s.config s.fetchBytes = .ok (i, rest) →
    (t.signal = true ↔ s.signal = true ∨ i.opcode < 128 ∧ someLaneSignals s (laneSignals i s))

/-- EXEC = 0: the destination becomes 0, EXEC and SIGNAL stay, the pc advances, all else stays as it was, and a register with no
value does no harm, since none is read (40_vopc_common.md R138, 10_state.md R35). -/
def Obligations.NoActiveLaneWritesZero : Prop :=
  ∀ (i : Instr) (s : State), i.WellFormed s.config → pcFits s.config (s.pc + i.form.length) = true → s.execMask = 0#64 →
    ∃ t, exec i s = .next t ∧ (∀ L, L < 64 → destBit t i.form.dest L = false) ∧ t.execMask = 0#64 ∧ t.signal = s.signal ∧
      t.pc = s.pc + i.form.length ∧ CompareFrame s t i.form.dest

/-- F gives 0 in every lane and T the old EXEC; an EXEC-writing F clears EXEC and an EXEC-writing T keeps it (40_vopc_common.md
R139). -/
def Obligations.ConstantOperations : Prop :=
  ∀ (i : Instr) (s t : State), Wrote i s t →
    (i.opcode % 16 = 0 → (∀ L, L < 64 → destBit t i.form.dest L = false) ∧
      t.execMask = if i.opcode / 16 % 2 = 1 then 0#64 else s.execMask) ∧
    ((i.opcode < 128 ∧ i.opcode % 16 = 15 ∨ 128 ≤ i.opcode ∧ i.opcode % 16 = 7) →
      (∀ L, L < 64 → destBit t i.form.dest L = s.execMask.getLsbD L) ∧ t.execMask = s.execMask)

/-- The VOP3 form with SDST = VCC, no modifiers and the same operands does what the VOPC form does, but for the pc
(40_vopc_common.md R141). A literal has no VOP3 form. -/
def Obligations.VopcAndVop3FormsAgree : Prop :=
  ∀ (i j : Instr) (s : State) (src0 : Src) (vsrc1 : VgprNum), i.opcode = j.opcode → i.form = .vopc src0 vsrc1 →
    j.form = .vop3 .vcc .off src0 (.vgpr vsrc1) → src0.isLiteral = false → pcFits s.config (s.pc + 8) = true →
    (∀ t, exec i s = .next t → t.pc = s.pc + 4 ∧ exec j s = .next (t.setPc (s.pc + 8))) ∧
    (∀ t, exec i s = .fault (.signal t) → t.pc = s.pc + 4 ∧ exec j s = .fault (.signal (t.setPc (s.pc + 8)))) ∧
    (exec i s = .fault .unwrittenRegister → exec j s = .fault .unwrittenRegister) ∧
    (∀ r, exec i s = .refused r → exec j s = .refused r)

/-- F, EQ, LG and T do not depend on signedness: the signed and the unsigned instruction act alike (40_vopc_common.md R133). -/
def Obligations.EqualityIgnoresSignedness : Prop :=
  ∀ (i j : Instr) (s : State), 128 ≤ i.opcode → i.opcode < 192 →
    (i.opcode % 16 = 0 ∨ i.opcode % 16 = 2 ∨ i.opcode % 16 = 5 ∨ i.opcode % 16 = 7) →
    j.opcode = i.opcode + 64 → j.form = i.form → exec j s = exec i s

/-- Floating-point offsets `k` and `15 - k` of one group are complements in every executing lane; read as printed, U is not the
complement of O, so that reading is excluded for the pair (40_vopc_common.md R130). -/
def Obligations.ComplementaryOperations : Prop :=
  ∀ (i j : Instr) (s t u : State), i.opcode < 128 → i.opcode / 16 = j.opcode / 16 → i.opcode % 16 + j.opcode % 16 = 15 →
    i.form = j.form → (s.config.uReading = .unordered ∨ i.opcode % 16 ≠ 7 ∧ i.opcode % 16 ≠ 8) → Wrote i s t → Wrote j s u →
    ∀ L, L < 64 → s.execMask.getLsbD L = true → destBit t i.form.dest L = !destBit u i.form.dest L

/-- The modifiers act on the sign bit alone: exponent, fraction and quiet bit stay, ABS clears the sign and NEG then inverts it
(40_vopc_common.md R123). -/
def Obligations.ModifiersActOnSignAlone : Prop :=
  (∀ (abs neg : Bool) (x : BitVec 32) (k : Nat), k < 32 → (applyMods abs neg x).getLsbD k =
    if k = 31 then Bool.xor neg (x.getLsbD 31 && !abs) else x.getLsbD k) ∧
  (∀ (abs neg : Bool) (x : BitVec 64) (k : Nat), k < 64 → (applyMods abs neg x).getLsbD k =
    if k = 63 then Bool.xor neg (x.getLsbD 63 && !abs) else x.getLsbD k) ∧
  (∀ (abs neg : Bool) (x : BitVec 32), isSNaN binary32 (applyMods abs neg x) = isSNaN binary32 x ∧
    isQNaN binary32 (applyMods abs neg x) = isQNaN binary32 x) ∧
  (∀ (abs neg : Bool) (x : BitVec 64), isSNaN binary64 (applyMods abs neg x) = isSNaN binary64 x ∧
    isQNaN binary64 (applyMods abs neg x) = isQNaN binary64 x)

/-- The relation of two patterns is unordered exactly when one is a NaN, and else the order of the patterns read as sign and
magnitude, in both formats (40_vopc_common.md R130, R132). -/
def Obligations.FloatOrderIsSignMagnitudeOrder : Prop :=
  (∀ a b : BitVec 32, fpRelation binary32 a b =
    if isNaN binary32 a || isNaN binary32 b then .un
    else if signMagnitude a < signMagnitude b then .lt
    else if signMagnitude a = signMagnitude b then .eq else .gt) ∧
  (∀ a b : BitVec 64, fpRelation binary64 a b =
    if isNaN binary64 a || isNaN binary64 b then .un
    else if signMagnitude a < signMagnitude b then .lt
    else if signMagnitude a = signMagnitude b then .eq else .gt)

/-- The infinities bound the order, each is equal to itself, and the zeros are equal (40_vopc_common.md R132). -/
def Obligations.InfinitiesBoundTheOrder : Prop :=
  (∀ x : BitVec 32, isNaN binary32 x = false →
    fpRelation binary32 0xFF800000#32 x = (if x = 0xFF800000#32 then .eq else .lt) ∧
    fpRelation binary32 0x7F800000#32 x = (if x = 0x7F800000#32 then .eq else .gt)) ∧
  (∀ x : BitVec 64, isNaN binary64 x = false →
    fpRelation binary64 0xFFF0000000000000#64 x = (if x = 0xFFF0000000000000#64 then .eq else .lt) ∧
    fpRelation binary64 0x7FF0000000000000#64 x = (if x = 0x7FF0000000000000#64 then .eq else .gt)) ∧
  fpRelation binary32 0x80000000#32 0x00000000#32 = .eq ∧
  fpRelation binary64 0x8000000000000000#64 0x0000000000000000#64 = .eq

/-- Flushing replaces a denormalized input by the zero of its sign and leaves every other pattern, so that no NaN appears or goes;
under `preserve` nothing changes (40_vopc_common.md R134). -/
def Obligations.FlushGivesSignedZero : Prop :=
  (∀ x : BitVec 32, flushDenorm .preserve binary32 x = x ∧ flushDenorm .flushInputs binary32 x =
    if 0 < x.toNat % 2 ^ 31 ∧ x.toNat % 2 ^ 31 < 2 ^ 23 then (if x.getLsbD 31 then 0x80000000#32 else 0#32) else x) ∧
  (∀ x : BitVec 64, flushDenorm .preserve binary64 x = x ∧ flushDenorm .flushInputs binary64 x =
    if 0 < x.toNat % 2 ^ 63 ∧ x.toNat % 2 ^ 63 < 2 ^ 52 then (if x.getLsbD 63 then 0x8000000000000000#64 else 0#64) else x)

/-- Every pattern of both formats belongs to exactly one of the ten rows of the class table, the one the model names
(40_vopc_common.md R135). -/
def Obligations.EveryPatternHasOneClass : Prop :=
  (∀ (x : BitVec 32) (k : Nat), classRow binary32 k x = true ↔ k = classBit (fpClass binary32 x)) ∧
  (∀ (x : BitVec 64) (k : Nat), classRow binary64 k x = true ↔ k = classBit (fpClass binary64 x))

/-- Integer compares and class tests act the same under every DENORM_MODE (40_vopc_common.md R134, R136). -/
def Obligations.DenormModeTouchesFloatComparesOnly : Prop :=
  ∀ (i : Instr) (s t : State) (d32 d64 : DenormMode), 128 ≤ i.opcode → exec i s = .next t →
    exec i { s with config := { s.config with denormF32 := d32, denormF64 := d64 } } =
      .next { t with config := { t.config with denormF32 := d32, denormF64 := d64 } }

/-- What reset leaves in every register and parameter. The spec gives SIGNAL = 0 and pc = PROGRAM_BASE (10_state.md R32); the other
values are the model's: logs 1 and 2 (zero), 3 (EXEC), 5 (base and empty program), 7 (configuration). That every register holds a
value is `AllHoldAtReset` (log 4). -/
def Obligations.ResetValues : Prop :=
  State.reset.signal = false ∧ State.reset.pc = State.reset.programBase ∧ State.reset.programBase = 0 ∧
  (∀ a, Memory.read State.reset.mem a = none) ∧ State.reset.execMask = BitVec.allOnes 64 ∧ State.reset.vcc = 0#64 ∧
  State.reset.m0 = 0#32 ∧ (∀ n, State.reset.sgpr n = 0#32) ∧ (∀ n L, State.reset.vgpr n L = 0#32) ∧
  State.reset.config.signalMode = .flag ∧ State.reset.config.denormF32 = .preserve ∧ State.reset.config.denormF64 = .preserve ∧
  State.reset.config.uReading = .unordered ∧ State.reset.config.gcn12Map = [] ∧
  State.reset.config.version = .v1_0 ∧ State.reset.config.inline64 = .refuse ∧ State.reset.config.pcWidth = none

/-- The invariant of launched states holds at reset (20_memory.md R54, 70_reset_and_hazards.md R541); that the program is empty there
is the model's choice (log 5). -/
def Obligations.LaunchedHoldsAtReset : Prop := Launched State.reset

/-- The reset state is a launch: PROGRAM at an aligned PROGRAM_BASE, pc = PROGRAM_BASE, SIGNAL = 0 (70_reset_and_hazards.md R541 (a), (e);
10_state.md R32). That the program is empty there and the base 0 is the model's choice (log 5). -/
def Obligations.ResetIsALaunch : Prop := Launch State.reset

/-- Every run of a launch stays in the launched states, with PROGRAM and its base as the launch gave them (70_reset_and_hazards.md R541;
20_memory.md R50, R54, R58). -/
def Obligations.LaunchRunsStayLaunched : Prop :=
  ∀ (k : Nat) (s t : State), Launch s → Reaches k s t → Launched t ∧ t.mem = s.mem ∧ t.programBase = s.programBase

/-- SIGNAL records the signals of this run only: after a run of a launch it is 1 exactly if some step of that run ran a floating-point
compare that signals in an executing lane (10_state.md R30, R32; 70_reset_and_hazards.md R541 (e)). -/
def Obligations.SignalRecordsThisRun : Prop :=
  ∀ (k : Nat) (s t : State), Launch s → Reaches k s t →
    (t.signal = true ↔ ∃ j u i rest, j < k ∧ Reaches j s u ∧ decode u.config u.fetchBytes = .ok (i, rest) ∧ i.opcode < 128 ∧
      someLaneSignals u (laneSignals i u))

/-- Every step keeps the invariant: the program stays placed, the pc aligned and inside the program or at its end (20_memory.md R50,
R54; 10_state.md R29). -/
def Obligations.LaunchedKeptByStep : Prop := ∀ s t : State, Launched s → step s = .next t → Launched t

/-- In a launched state instruction memory has the canonical form and holds a byte exactly from PROGRAM_BASE to PROGRAM_END
(20_memory.md R50). -/
def Obligations.LaunchedMemoryIsTheProgram : Prop :=
  ∀ s : State, Launched s → Memory.wf s.mem = true ∧
    ∀ a, (Memory.read s.mem a).isSome = true ↔ s.programBase ≤ a ∧ a < s.programEnd

/-- Every run terminates: each step advances the pc by at least 4 towards PROGRAM_END, so that a program of `n` bytes runs at most
`n / 4` steps (70_reset_and_hazards.md R550). -/
def Obligations.RunTerminates : Prop :=
  ∀ (k : Nat) (s t : State), Launched s → Reaches k s t →
    s.pc + 4 * k ≤ t.pc ∧ t.pc ≤ s.programEnd ∧ (s.pc = s.programBase → k ≤ s.mem.length / 4)

/-- A run ends exactly at PROGRAM_END (70_reset_and_hazards.md R544), from every aligned base and pc. The refusal's name is the model's
choice (log 6), and so is what PROGRAM_END is where the listed bytes have a gap, which no launch gives (log 19). -/
def Obligations.RunEndsAtProgramEnd : Prop :=
  ∀ s : State, s.programBase % 4 = 0 → s.pc % 4 = 0 → (step s = .refused .runEnded ↔ Final s)

/-- A fetch of a word with any byte outside [PROGRAM_BASE, PROGRAM_END) is refused, wherever bytes are listed: at a pc before it or
beyond it, at a pc with 1 to 3 bytes left, and where a second word is wanted with 0 to 3 bytes of it left (20_memory.md R50,
70_reset_and_hazards.md R544). What PROGRAM_END is where the listed bytes have a gap, which no launch gives, is the model's choice
(log 19). -/
def Obligations.FetchOutsideProgramRefused : Prop :=
  (∀ s : State, (s.config.version = .v1_2 → s.config.gcn12Map ≠ []) → s.programBase % 4 = 0 → s.pc % 4 = 0 →
    s.pc ≠ s.programEnd → (s.pc < s.programBase ∨ s.programEnd < s.pc + 4) →
    step s = .refused (.rejected .fetchOutsideProgram)) ∧
  (∀ (s : State) (w : Word), (s.config.version = .v1_2 → s.config.gcn12Map ≠ []) → s.programBase % 4 = 0 → s.pc % 4 = 0 →
    s.programBase ≤ s.pc → s.pc + 4 ≤ s.programEnd → s.programEnd < s.pc + 8 →
    Memory.readRun s.mem s.pc 4 = bytesOfWord w → wantsSecondWord w → step s = .refused (.rejected .fetchOutsideProgram))

/-- What stands in a VGPR in a lane with EXEC = 0, a value or none, is never observed: two states that differ there only run alike,
for any number of steps (10_state.md R24, R31; 40_vopc_common.md R121). -/
def Obligations.DisabledLanesUnobserved : Prop :=
  ∀ (k : Nat) (s t : State) (other : Vector (Vector Word 64) 256) (has : Vector LaneMask 256),
    (∀ n L, L < 64 → s.execMask.getLsbD L = true →
      State.vgpr { s with vgprs := other, vgprHas := has } n L = s.vgpr n L ∧
      State.vgprHolds { s with vgprs := other, vgprHas := has } n L = s.vgprHolds n L) →
    Reaches k s t → Reaches k { s with vgprs := other, vgprHas := has } { t with vgprs := other, vgprHas := has }
end

