-- ==== Sys2Proof/Laws/Decode.lean ====
section
/-! SUPPORT. Words, bytes and fields: the small lemmas of the decoder and the encoder. -/

namespace Sys2Proof

/-- A field of a numeral word, as arithmetic. -/
theorem field_ofNat (n lo k : Nat) : field (BitVec.ofNat 32 n) lo k = n % 2 ^ 32 / 2 ^ lo % 2 ^ k := by
  simp [field]

/-- The bytes of a word give the word back (20_memory.md R51). -/
theorem wordOfBytes_bytes (w : Word) :
    wordOfBytes (BitVec.ofNat 8 (field w 0 8)) (BitVec.ofNat 8 (field w 8 8)) (BitVec.ofNat 8 (field w 16 8))
      (BitVec.ofNat 8 (field w 24 8)) = w := by
  apply BitVec.eq_of_toNat_eq
  have := w.isLt
  simp only [wordOfBytes, field, BitVec.toNat_ofNat]
  omega

/-- Reading a word from its own bytes. -/
@[simp] theorem takeWord_bytesOfWord (w : Word) (rest : List Byte) : takeWord (bytesOfWord w ++ rest) = some (w, rest) := by
  simp only [bytesOfWord, List.cons_append, List.nil_append, takeWord, wordOfBytes_bytes]

/-- A word taken from bytes is followed by all but four of them. -/
theorem takeWord_length {bytes rest : List Byte} {w : Word} (h : takeWord bytes = some (w, rest)) :
    bytes.length = rest.length + 4 := by
  match bytes, h with
  | _ :: _ :: _ :: _ :: _, h =>
    simp only [takeWord, Option.some.injEq, Prod.mk.injEq] at h
    simp [h.2]

/-- No word is taken exactly where fewer than four bytes are left. -/
theorem takeWord_eq_none {bytes : List Byte} : takeWord bytes = none ↔ bytes.length < 4 := by
  match bytes with
  | [] => simp [takeWord]
  | [_] => simp [takeWord]
  | [_, _] => simp [takeWord]
  | [_, _, _] => simp [takeWord]
  | _ :: _ :: _ :: _ :: _ => simp [takeWord]

/-- The fields of a VOPC word are those it was made of (30_encoding.md R70). -/
theorem vopcWord_fields {src0 vsrc1 op : Nat} (h0 : src0 < 512) (h1 : vsrc1 < 256) (h2 : op < 256) :
    field (vopcWord src0 vsrc1 op) 0 9 = src0 ∧ field (vopcWord src0 vsrc1 op) 9 8 = vsrc1 ∧
    field (vopcWord src0 vsrc1 op) 17 8 = op ∧ field (vopcWord src0 vsrc1 op) 25 7 = 0x3E := by
  simp only [vopcWord, field_ofNat]
  omega

/-- A check that finds nothing passes its value on. -/
@[simp] theorem passing_none {α : Type} (x : α) : passing none x = .ok x := rfl

/-- A check that finds something refuses by its label. -/
@[simp] theorem passing_some {α : Type} (why : Reject) (x : α) : passing (some why) x = .error why := rfl

/-- What passed a check is the value itself. -/
theorem passing_eq_ok {α : Type} {check : Option Reject} {x y : α} : passing check x = .ok y ↔ check = none ∧ x = y := by
  cases check <;> simp [passing]

/-- A bound computation that answers ran through both parts. -/
theorem except_bind_eq_ok {ε α β : Type} {x : Except ε α} {f : α → Except ε β} {b : β} :
    x.bind f = .ok b ↔ ∃ a, x = .ok a ∧ f a = .ok b := by
  cases x <;> simp [Except.bind]

end Sys2Proof
end

