-- ==== Sys2Proof/Laws/State.lean ====
section
/-! SUPPORT. One lemma per field per update of the state, and what the register reads give after an update. -/

namespace Sys2Proof.Machine

@[simp] theorem State.setVcc_sgprs (s : State) (d : LaneMask) : (s.setVcc d).sgprs = s.sgprs := rfl
@[simp] theorem State.setVcc_vgprs (s : State) (d : LaneMask) : (s.setVcc d).vgprs = s.vgprs := rfl
@[simp] theorem State.setVcc_sgprHas (s : State) (d : LaneMask) : (s.setVcc d).sgprHas = s.sgprHas := rfl
@[simp] theorem State.setVcc_vgprHas (s : State) (d : LaneMask) : (s.setVcc d).vgprHas = s.vgprHas := rfl
@[simp] theorem State.setVcc_vcc (s : State) (d : LaneMask) : (s.setVcc d).vcc = d := rfl
@[simp] theorem State.setVcc_vccLoHas (s : State) (d : LaneMask) : (s.setVcc d).vccLoHas = true := rfl
@[simp] theorem State.setVcc_vccHiHas (s : State) (d : LaneMask) : (s.setVcc d).vccHiHas = true := rfl
@[simp] theorem State.setVcc_execMask (s : State) (d : LaneMask) : (s.setVcc d).execMask = s.execMask := rfl
@[simp] theorem State.setVcc_m0 (s : State) (d : LaneMask) : (s.setVcc d).m0 = s.m0 := rfl
@[simp] theorem State.setVcc_m0Has (s : State) (d : LaneMask) : (s.setVcc d).m0Has = s.m0Has := rfl
@[simp] theorem State.setVcc_pc (s : State) (d : LaneMask) : (s.setVcc d).pc = s.pc := rfl
@[simp] theorem State.setVcc_signal (s : State) (d : LaneMask) : (s.setVcc d).signal = s.signal := rfl
@[simp] theorem State.setVcc_programBase (s : State) (d : LaneMask) : (s.setVcc d).programBase = s.programBase := rfl
@[simp] theorem State.setVcc_mem (s : State) (d : LaneMask) : (s.setVcc d).mem = s.mem := rfl
@[simp] theorem State.setVcc_config (s : State) (d : LaneMask) : (s.setVcc d).config = s.config := rfl

@[simp] theorem State.setExec_sgprs (s : State) (d : LaneMask) : (s.setExec d).sgprs = s.sgprs := rfl
@[simp] theorem State.setExec_vgprs (s : State) (d : LaneMask) : (s.setExec d).vgprs = s.vgprs := rfl
@[simp] theorem State.setExec_sgprHas (s : State) (d : LaneMask) : (s.setExec d).sgprHas = s.sgprHas := rfl
@[simp] theorem State.setExec_vgprHas (s : State) (d : LaneMask) : (s.setExec d).vgprHas = s.vgprHas := rfl
@[simp] theorem State.setExec_vcc (s : State) (d : LaneMask) : (s.setExec d).vcc = s.vcc := rfl
@[simp] theorem State.setExec_vccLoHas (s : State) (d : LaneMask) : (s.setExec d).vccLoHas = s.vccLoHas := rfl
@[simp] theorem State.setExec_vccHiHas (s : State) (d : LaneMask) : (s.setExec d).vccHiHas = s.vccHiHas := rfl
@[simp] theorem State.setExec_execMask (s : State) (d : LaneMask) : (s.setExec d).execMask = d := rfl
@[simp] theorem State.setExec_m0 (s : State) (d : LaneMask) : (s.setExec d).m0 = s.m0 := rfl
@[simp] theorem State.setExec_m0Has (s : State) (d : LaneMask) : (s.setExec d).m0Has = s.m0Has := rfl
@[simp] theorem State.setExec_pc (s : State) (d : LaneMask) : (s.setExec d).pc = s.pc := rfl
@[simp] theorem State.setExec_signal (s : State) (d : LaneMask) : (s.setExec d).signal = s.signal := rfl
@[simp] theorem State.setExec_programBase (s : State) (d : LaneMask) : (s.setExec d).programBase = s.programBase := rfl
@[simp] theorem State.setExec_mem (s : State) (d : LaneMask) : (s.setExec d).mem = s.mem := rfl
@[simp] theorem State.setExec_config (s : State) (d : LaneMask) : (s.setExec d).config = s.config := rfl

@[simp] theorem State.setSgpr_sgprs (s : State) (n : Nat) (x : Word) : (s.setSgpr n x).sgprs = s.sgprs.setIfInBounds n x := rfl
@[simp] theorem State.setSgpr_vgprs (s : State) (n : Nat) (x : Word) : (s.setSgpr n x).vgprs = s.vgprs := rfl
@[simp] theorem State.setSgpr_sgprHas (s : State) (n : Nat) (x : Word) : (s.setSgpr n x).sgprHas = s.sgprHas.setIfInBounds n true := rfl
@[simp] theorem State.setSgpr_vgprHas (s : State) (n : Nat) (x : Word) : (s.setSgpr n x).vgprHas = s.vgprHas := rfl
@[simp] theorem State.setSgpr_vcc (s : State) (n : Nat) (x : Word) : (s.setSgpr n x).vcc = s.vcc := rfl
@[simp] theorem State.setSgpr_vccLoHas (s : State) (n : Nat) (x : Word) : (s.setSgpr n x).vccLoHas = s.vccLoHas := rfl
@[simp] theorem State.setSgpr_vccHiHas (s : State) (n : Nat) (x : Word) : (s.setSgpr n x).vccHiHas = s.vccHiHas := rfl
@[simp] theorem State.setSgpr_execMask (s : State) (n : Nat) (x : Word) : (s.setSgpr n x).execMask = s.execMask := rfl
@[simp] theorem State.setSgpr_m0 (s : State) (n : Nat) (x : Word) : (s.setSgpr n x).m0 = s.m0 := rfl
@[simp] theorem State.setSgpr_m0Has (s : State) (n : Nat) (x : Word) : (s.setSgpr n x).m0Has = s.m0Has := rfl
@[simp] theorem State.setSgpr_pc (s : State) (n : Nat) (x : Word) : (s.setSgpr n x).pc = s.pc := rfl
@[simp] theorem State.setSgpr_signal (s : State) (n : Nat) (x : Word) : (s.setSgpr n x).signal = s.signal := rfl
@[simp] theorem State.setSgpr_programBase (s : State) (n : Nat) (x : Word) : (s.setSgpr n x).programBase = s.programBase := rfl
@[simp] theorem State.setSgpr_mem (s : State) (n : Nat) (x : Word) : (s.setSgpr n x).mem = s.mem := rfl
@[simp] theorem State.setSgpr_config (s : State) (n : Nat) (x : Word) : (s.setSgpr n x).config = s.config := rfl

@[simp] theorem State.setPc_sgprs (s : State) (a : Nat) : (s.setPc a).sgprs = s.sgprs := rfl
@[simp] theorem State.setPc_vgprs (s : State) (a : Nat) : (s.setPc a).vgprs = s.vgprs := rfl
@[simp] theorem State.setPc_sgprHas (s : State) (a : Nat) : (s.setPc a).sgprHas = s.sgprHas := rfl
@[simp] theorem State.setPc_vgprHas (s : State) (a : Nat) : (s.setPc a).vgprHas = s.vgprHas := rfl
@[simp] theorem State.setPc_vcc (s : State) (a : Nat) : (s.setPc a).vcc = s.vcc := rfl
@[simp] theorem State.setPc_vccLoHas (s : State) (a : Nat) : (s.setPc a).vccLoHas = s.vccLoHas := rfl
@[simp] theorem State.setPc_vccHiHas (s : State) (a : Nat) : (s.setPc a).vccHiHas = s.vccHiHas := rfl
@[simp] theorem State.setPc_execMask (s : State) (a : Nat) : (s.setPc a).execMask = s.execMask := rfl
@[simp] theorem State.setPc_m0 (s : State) (a : Nat) : (s.setPc a).m0 = s.m0 := rfl
@[simp] theorem State.setPc_m0Has (s : State) (a : Nat) : (s.setPc a).m0Has = s.m0Has := rfl
@[simp] theorem State.setPc_pc (s : State) (a : Nat) : (s.setPc a).pc = a := rfl
@[simp] theorem State.setPc_signal (s : State) (a : Nat) : (s.setPc a).signal = s.signal := rfl
@[simp] theorem State.setPc_programBase (s : State) (a : Nat) : (s.setPc a).programBase = s.programBase := rfl
@[simp] theorem State.setPc_mem (s : State) (a : Nat) : (s.setPc a).mem = s.mem := rfl
@[simp] theorem State.setPc_config (s : State) (a : Nat) : (s.setPc a).config = s.config := rfl

@[simp] theorem State.setSignal_sgprs (s : State) : s.setSignal.sgprs = s.sgprs := rfl
@[simp] theorem State.setSignal_vgprs (s : State) : s.setSignal.vgprs = s.vgprs := rfl
@[simp] theorem State.setSignal_sgprHas (s : State) : s.setSignal.sgprHas = s.sgprHas := rfl
@[simp] theorem State.setSignal_vgprHas (s : State) : s.setSignal.vgprHas = s.vgprHas := rfl
@[simp] theorem State.setSignal_vcc (s : State) : s.setSignal.vcc = s.vcc := rfl
@[simp] theorem State.setSignal_vccLoHas (s : State) : s.setSignal.vccLoHas = s.vccLoHas := rfl
@[simp] theorem State.setSignal_vccHiHas (s : State) : s.setSignal.vccHiHas = s.vccHiHas := rfl
@[simp] theorem State.setSignal_execMask (s : State) : s.setSignal.execMask = s.execMask := rfl
@[simp] theorem State.setSignal_m0 (s : State) : s.setSignal.m0 = s.m0 := rfl
@[simp] theorem State.setSignal_m0Has (s : State) : s.setSignal.m0Has = s.m0Has := rfl
@[simp] theorem State.setSignal_pc (s : State) : s.setSignal.pc = s.pc := rfl
@[simp] theorem State.setSignal_signal (s : State) : s.setSignal.signal = true := rfl
@[simp] theorem State.setSignal_programBase (s : State) : s.setSignal.programBase = s.programBase := rfl
@[simp] theorem State.setSignal_mem (s : State) : s.setSignal.mem = s.mem := rfl
@[simp] theorem State.setSignal_config (s : State) : s.setSignal.config = s.config := rfl

@[simp] theorem State.withFetchWord_sgprs (s : State) (nbits w : Nat) : (s.withFetchWord nbits w).sgprs = s.sgprs := rfl
@[simp] theorem State.withFetchWord_vgprs (s : State) (nbits w : Nat) : (s.withFetchWord nbits w).vgprs = s.vgprs := rfl
@[simp] theorem State.withFetchWord_sgprHas (s : State) (nbits w : Nat) : (s.withFetchWord nbits w).sgprHas = s.sgprHas := rfl
@[simp] theorem State.withFetchWord_vgprHas (s : State) (nbits w : Nat) : (s.withFetchWord nbits w).vgprHas = s.vgprHas := rfl
@[simp] theorem State.withFetchWord_vcc (s : State) (nbits w : Nat) : (s.withFetchWord nbits w).vcc = s.vcc := rfl
@[simp] theorem State.withFetchWord_vccLoHas (s : State) (nbits w : Nat) : (s.withFetchWord nbits w).vccLoHas = s.vccLoHas := rfl
@[simp] theorem State.withFetchWord_vccHiHas (s : State) (nbits w : Nat) : (s.withFetchWord nbits w).vccHiHas = s.vccHiHas := rfl
@[simp] theorem State.withFetchWord_execMask (s : State) (nbits w : Nat) : (s.withFetchWord nbits w).execMask = s.execMask := rfl
@[simp] theorem State.withFetchWord_m0 (s : State) (nbits w : Nat) : (s.withFetchWord nbits w).m0 = s.m0 := rfl
@[simp] theorem State.withFetchWord_m0Has (s : State) (nbits w : Nat) : (s.withFetchWord nbits w).m0Has = s.m0Has := rfl
@[simp] theorem State.withFetchWord_pc (s : State) (nbits w : Nat) : (s.withFetchWord nbits w).pc = s.pc := rfl
@[simp] theorem State.withFetchWord_signal (s : State) (nbits w : Nat) : (s.withFetchWord nbits w).signal = s.signal := rfl
@[simp] theorem State.withFetchWord_programBase (s : State) (nbits w : Nat) : (s.withFetchWord nbits w).programBase = s.programBase := rfl
@[simp] theorem State.withFetchWord_mem (s : State) (nbits w : Nat) : (s.withFetchWord nbits w).mem = Memory.load s.mem s.pc (tableBytes nbits w) := rfl
@[simp] theorem State.withFetchWord_config (s : State) (nbits w : Nat) : (s.withFetchWord nbits w).config = s.config := rfl

@[simp] theorem State.writeDest_vgprs (s : State) (dest : Sdst) (d : LaneMask) : (s.writeDest dest d).vgprs = s.vgprs := by
  cases dest <;> rfl
@[simp] theorem State.writeDest_vgprHas (s : State) (dest : Sdst) (d : LaneMask) : (s.writeDest dest d).vgprHas = s.vgprHas := by
  cases dest <;> rfl
@[simp] theorem State.writeDest_execMask (s : State) (dest : Sdst) (d : LaneMask) : (s.writeDest dest d).execMask = s.execMask := by
  cases dest <;> rfl
@[simp] theorem State.writeDest_m0 (s : State) (dest : Sdst) (d : LaneMask) : (s.writeDest dest d).m0 = s.m0 := by
  cases dest <;> rfl
@[simp] theorem State.writeDest_m0Has (s : State) (dest : Sdst) (d : LaneMask) : (s.writeDest dest d).m0Has = s.m0Has := by
  cases dest <;> rfl
@[simp] theorem State.writeDest_pc (s : State) (dest : Sdst) (d : LaneMask) : (s.writeDest dest d).pc = s.pc := by
  cases dest <;> rfl
@[simp] theorem State.writeDest_signal (s : State) (dest : Sdst) (d : LaneMask) : (s.writeDest dest d).signal = s.signal := by
  cases dest <;> rfl
@[simp] theorem State.writeDest_programBase (s : State) (dest : Sdst) (d : LaneMask) : (s.writeDest dest d).programBase = s.programBase := by
  cases dest <;> rfl
@[simp] theorem State.writeDest_mem (s : State) (dest : Sdst) (d : LaneMask) : (s.writeDest dest d).mem = s.mem := by
  cases dest <;> rfl
@[simp] theorem State.writeDest_config (s : State) (dest : Sdst) (d : LaneMask) : (s.writeDest dest d).config = s.config := by
  cases dest <;> rfl

@[simp] theorem State.writeDest_vcc_vcc (s : State) (d : LaneMask) : (s.writeDest .vcc d).vcc = d := rfl
@[simp] theorem State.writeDest_vcc_sgprs (s : State) (d : LaneMask) : (s.writeDest .vcc d).sgprs = s.sgprs := rfl
@[simp] theorem State.writeDest_pair_vcc (s : State) (n : SgprNum) (d : LaneMask) : (s.writeDest (.pair n) d).vcc = s.vcc := rfl
@[simp] theorem State.writeDest_vcc_sgprHas (s : State) (d : LaneMask) : (s.writeDest .vcc d).sgprHas = s.sgprHas := rfl
@[simp] theorem State.writeDest_vcc_vccLoHas (s : State) (d : LaneMask) : (s.writeDest .vcc d).vccLoHas = true := rfl
@[simp] theorem State.writeDest_vcc_vccHiHas (s : State) (d : LaneMask) : (s.writeDest .vcc d).vccHiHas = true := rfl
@[simp] theorem State.writeDest_pair_vccLoHas (s : State) (n : SgprNum) (d : LaneMask) :
    (s.writeDest (.pair n) d).vccLoHas = s.vccLoHas := rfl
@[simp] theorem State.writeDest_pair_vccHiHas (s : State) (n : SgprNum) (d : LaneMask) :
    (s.writeDest (.pair n) d).vccHiHas = s.vccHiHas := rfl

/-- A read of an SGPR depends on the SGPR file alone. -/
theorem State.sgpr_congr {s t : State} (h : t.sgprs = s.sgprs) (n : Nat) : t.sgpr n = s.sgpr n := by
  simp only [State.sgpr, h]

/-- A read of a VGPR depends on the VGPR file alone. -/
theorem State.vgpr_congr {s t : State} (h : t.vgprs = s.vgprs) (n L : Nat) : t.vgpr n L = s.vgpr n L := by
  simp only [State.vgpr, h]

/-- Whether an SGPR holds a value depends on its field alone. -/
theorem State.sgprHolds_congr {s t : State} (h : t.sgprHas = s.sgprHas) (n : Nat) : t.sgprHolds n = s.sgprHolds n := by
  simp only [State.sgprHolds, h]

/-- Whether a VGPR lane holds a value depends on its field alone. -/
theorem State.vgprHolds_congr {s t : State} (h : t.vgprHas = s.vgprHas) (n L : Nat) : t.vgprHolds n L = s.vgprHolds n L := by
  simp only [State.vgprHolds, h]

@[simp] theorem State.setVcc_sgpr (s : State) (d : LaneMask) (k : Nat) : (s.setVcc d).sgpr k = s.sgpr k := rfl
@[simp] theorem State.setVcc_sgprHolds (s : State) (d : LaneMask) (k : Nat) : (s.setVcc d).sgprHolds k = s.sgprHolds k := rfl
@[simp] theorem State.setExec_sgpr (s : State) (d : LaneMask) (k : Nat) : (s.setExec d).sgpr k = s.sgpr k := rfl
@[simp] theorem State.setExec_sgprHolds (s : State) (d : LaneMask) (k : Nat) : (s.setExec d).sgprHolds k = s.sgprHolds k := rfl
@[simp] theorem State.setPc_sgpr (s : State) (a : Nat) (k : Nat) : (s.setPc a).sgpr k = s.sgpr k := rfl
@[simp] theorem State.setPc_sgprHolds (s : State) (a : Nat) (k : Nat) : (s.setPc a).sgprHolds k = s.sgprHolds k := rfl
@[simp] theorem State.setSignal_sgpr (s : State) (k : Nat) : s.setSignal.sgpr k = s.sgpr k := rfl
@[simp] theorem State.setSignal_sgprHolds (s : State) (k : Nat) : s.setSignal.sgprHolds k = s.sgprHolds k := rfl
@[simp] theorem State.withFetchWord_sgpr (s : State) (nbits w : Nat) (k : Nat) : (s.withFetchWord nbits w).sgpr k = s.sgpr k := rfl
@[simp] theorem State.withFetchWord_sgprHolds (s : State) (nbits w : Nat) (k : Nat) : (s.withFetchWord nbits w).sgprHolds k = s.sgprHolds k := rfl
@[simp] theorem State.setVcc_vgpr (s : State) (d : LaneMask) (k L : Nat) : (s.setVcc d).vgpr k L = s.vgpr k L := rfl
@[simp] theorem State.setVcc_vgprHolds (s : State) (d : LaneMask) (k L : Nat) : (s.setVcc d).vgprHolds k L = s.vgprHolds k L := rfl
@[simp] theorem State.setExec_vgpr (s : State) (d : LaneMask) (k L : Nat) : (s.setExec d).vgpr k L = s.vgpr k L := rfl
@[simp] theorem State.setExec_vgprHolds (s : State) (d : LaneMask) (k L : Nat) : (s.setExec d).vgprHolds k L = s.vgprHolds k L := rfl
@[simp] theorem State.setSgpr_vgpr (s : State) (n : Nat) (x : Word) (k L : Nat) : (s.setSgpr n x).vgpr k L = s.vgpr k L := rfl
@[simp] theorem State.setSgpr_vgprHolds (s : State) (n : Nat) (x : Word) (k L : Nat) : (s.setSgpr n x).vgprHolds k L = s.vgprHolds k L := rfl
@[simp] theorem State.setPc_vgpr (s : State) (a : Nat) (k L : Nat) : (s.setPc a).vgpr k L = s.vgpr k L := rfl
@[simp] theorem State.setPc_vgprHolds (s : State) (a : Nat) (k L : Nat) : (s.setPc a).vgprHolds k L = s.vgprHolds k L := rfl
@[simp] theorem State.setSignal_vgpr (s : State) (k L : Nat) : s.setSignal.vgpr k L = s.vgpr k L := rfl
@[simp] theorem State.setSignal_vgprHolds (s : State) (k L : Nat) : s.setSignal.vgprHolds k L = s.vgprHolds k L := rfl
@[simp] theorem State.withFetchWord_vgpr (s : State) (nbits w : Nat) (k L : Nat) : (s.withFetchWord nbits w).vgpr k L = s.vgpr k L := rfl
@[simp] theorem State.withFetchWord_vgprHolds (s : State) (nbits w : Nat) (k L : Nat) : (s.withFetchWord nbits w).vgprHolds k L = s.vgprHolds k L := rfl

/-- What an SGPR reads as after a write to an SGPR of the file (10_state.md R20). -/
theorem State.setSgpr_sgpr (s : State) (n : Nat) (x : Word) (k : Nat) (h : n < 104) :
    (s.setSgpr n x).sgpr k = if k = n then x else s.sgpr k := by
  unfold State.sgpr State.setSgpr
  by_cases hk : k < 104
  · simp only [hk, dif_pos, Vector.getElem_setIfInBounds]
    by_cases e : n = k
    · simp [e]
    · simp [e, Ne.symm e]
  · have : k ≠ n := by omega
    simp [hk, this]

/-- An SGPR of the file that is written holds a value; the others are as before (10_state.md R31). -/
theorem State.setSgpr_sgprHolds (s : State) (n : Nat) (x : Word) (k : Nat) (h : n < 104) :
    (s.setSgpr n x).sgprHolds k = (decide (k = n) || s.sgprHolds k) := by
  unfold State.sgprHolds State.setSgpr
  by_cases hk : k < 104
  · simp only [hk, dif_pos, Vector.getElem_setIfInBounds]
    by_cases e : n = k
    · simp [e]
    · simp [e, Ne.symm e]
  · have : k ≠ n := by omega
    simp [hk, this]

@[simp] theorem State.writeDest_vcc_sgprHolds (s : State) (d : LaneMask) (k : Nat) :
    (s.writeDest .vcc d).sgprHolds k = s.sgprHolds k := rfl

@[simp] theorem State.writeDest_vgprHolds (s : State) (dest : Sdst) (d : LaneMask) (k L : Nat) :
    (s.writeDest dest d).vgprHolds k L = s.vgprHolds k L := by
  cases dest <;> rfl

@[simp] theorem State.writeDest_vcc_sgpr (s : State) (d : LaneMask) (k : Nat) : (s.writeDest .vcc d).sgpr k = s.sgpr k := rfl

@[simp] theorem State.writeDest_vgpr (s : State) (dest : Sdst) (d : LaneMask) (k L : Nat) :
    (s.writeDest dest d).vgpr k L = s.vgpr k L := by
  cases dest <;> rfl

/-- What an SGPR reads as after a mask is written to a pair of the file (40_vopc_common.md R126). -/
theorem State.writeDest_pair_sgpr (s : State) (n : SgprNum) (d : LaneMask) (k : Nat) (h : n.val + 1 < 104) :
    (s.writeDest (.pair n) d).sgpr k =
      if k = n.val + 1 then highHalf d else if k = n.val then lowHalf d else s.sgpr k := by
  simp only [State.writeDest]
  rw [State.setSgpr_sgpr _ _ _ _ h, State.setSgpr_sgpr _ _ _ _ (by omega)]

/-- A pair of the file that a mask is written to holds a value; the other SGPRs are as before (10_state.md R31). -/
theorem State.writeDest_pair_sgprHolds (s : State) (n : SgprNum) (d : LaneMask) (k : Nat) (h : n.val + 1 < 104) :
    (s.writeDest (.pair n) d).sgprHolds k = (decide (k = n.val + 1) || (decide (k = n.val) || s.sgprHolds k)) := by
  simp only [State.writeDest]
  rw [State.setSgpr_sgprHolds _ _ _ _ h, State.setSgpr_sgprHolds _ _ _ _ (by omega)]

end Sys2Proof.Machine
end

