-- ==== Sys2Proof/Laws/Ops.lean ====
section
/-! SUPPORT. What each shared operation can do, said once: masks, the signal, the compare step. -/

namespace Sys2Proof.Machine

/-- A sum of lane bits stays below the next power of two. -/
theorem laneSum_lt (f : Nat → Bool) (n : Nat) : laneSum f n < 2 ^ n := by
  induction n with
  | zero => simp [laneSum]
  | succ n ih => cases h : f n <;> simp [laneSum, h, Nat.pow_succ] <;> omega

/-- Bit `L` of a sum of lane bits is the lane's. -/
theorem laneSum_testBit (f : Nat → Bool) (n L : Nat) : (laneSum f n).testBit L = (decide (L < n) && f L) := by
  induction n with
  | zero => simp [laneSum]
  | succ n ih =>
    have hlt := laneSum_lt f n
    have hadd : laneSum f (n + 1) = 2 ^ n * (f n).toNat + laneSum f n := by simp [laneSum]; ring
    rw [hadd, Nat.testBit_two_pow_mul_add _ hlt]
    split
    · rename_i h; rw [ih]; simp [h, Nat.lt_succ_of_lt h]
    · rename_i h
      rcases Nat.lt_or_eq_of_le (Nat.le_of_not_lt h) with h' | rfl
      · have h1 : L - n ≠ 0 := by omega
        have h2 : ¬ L < n + 1 := by omega
        simp only [h2, decide_false, Bool.false_and]
        cases f n <;> simp [Nat.testBit_one_eq_true_iff_self_eq_zero, Bool.eq_false_iff, h1]
      · cases f n <;> simp

/-- Bit `L` of a lane mask is lane `L`'s (00_scope.md R7). -/
@[simp] theorem laneMask_getLsbD (f : Nat → Bool) (L : Nat) : (laneMask f).getLsbD L = (decide (L < 64) && f L) := by
  rw [laneMask, BitVec.getLsbD_ofNat, laneSum_testBit]
  by_cases h : L < 64 <;> simp [h]

/-- Two masks of functions that agree on the 64 lanes are equal. -/
theorem laneMask_congr {f g : Nat → Bool} (h : ∀ L < 64, f L = g L) : laneMask f = laneMask g := by
  apply BitVec.eq_of_getLsbD_eq
  intro L hL
  rw [laneMask_getLsbD, laneMask_getLsbD, h L hL]

/-- Some lane is true exactly when one of the 64 is. -/
theorem anyLane_eq_true (f : Nat → Bool) : anyLane f = true ↔ ∃ L < 64, f L = true := by
  simp [anyLane, List.any_eq_true, List.mem_range]

/-- `anyLane` looks at the 64 lanes only. -/
theorem anyLane_congr {f g : Nat → Bool} (h : ∀ L < 64, f L = g L) : anyLane f = anyLane g := by
  rw [Bool.eq_iff_iff, anyLane_eq_true, anyLane_eq_true]
  constructor <;> rintro ⟨L, hL, hf⟩ <;> exact ⟨L, hL, by simpa [h L hL] using hf⟩

/-- A register pair holds the mask written to it (10_state.md R22, R28). -/
@[simp] theorem pairValue_halves (d : LaneMask) : pairValue (highHalf d) (lowHalf d) = d := by
  apply BitVec.eq_of_getLsbD_eq
  intro L hL
  simp only [pairValue, highHalf, lowHalf, BitVec.getLsbD_append, BitVec.getLsbD_extractLsb']
  by_cases h : L < 32
  · simp [h]
  · have : 32 + (L - 32) = L := by omega
    simp [h, this]; omega

/-- The signal goes on under SIGNAL_MODE = flag, with SIGNAL set (60_exceptions.md R500). -/
theorem raiseSignal_next {s t : State} : raiseSignal s = .next t ↔ s.config.signalMode = .flag ∧ t = s.setSignal := by
  unfold raiseSignal
  cases h : s.config.signalMode <;> simp [eq_comm]

/-- The signal ends the step under SIGNAL_MODE = fault, with SIGNAL set (60_exceptions.md R500). -/
theorem raiseSignal_fault {s : State} {f : Fault} :
    raiseSignal s = .fault f ↔ s.config.signalMode = .fault ∧ f = .signal s.setSignal := by
  unfold raiseSignal
  cases h : s.config.signalMode <;> simp [eq_comm]

/-- The signal is no refusal. -/
theorem raiseSignal_refused {s : State} {r : Refusal} : raiseSignal s ≠ .refused r := by
  unfold raiseSignal
  cases s.config.signalMode <;> simp

/-- The result mask of a compare: the lane's result where EXEC is 1, else 0 (40_vopc_common.md R124, R125). -/
def resultMask (s : State) (cmp : Nat → Bool) : LaneMask := laneMask fun L => s.execMask.getLsbD L && cmp L

/-- The state after steps 5 to 7 of 40_vopc_common.md R120, before any signal. -/
def compareState (s : State) (form : Form) (writesExec : Bool) (d : LaneMask) : State :=
  (if writesExec then (s.writeDest form.dest d).setExec d else s.writeDest form.dest d).setPc (s.pc + form.length)

/-- `finishCompare` in terms of the mask it writes and the state it reaches. -/
theorem finishCompare_eq (s : State) (form : Form) (x : Bool) (cmp sig : Nat → Bool) :
    finishCompare s form x cmp sig =
      if anyLane (fun L => s.execMask.getLsbD L && sig L) then raiseSignal (compareState s form x (resultMask s cmp))
      else .next (compareState s form x (resultMask s cmp)) := rfl

@[simp] theorem compareState_pc (s : State) (form : Form) (x : Bool) (d : LaneMask) :
    (compareState s form x d).pc = s.pc + form.length := rfl
@[simp] theorem compareState_vgprs (s : State) (form : Form) (x : Bool) (d : LaneMask) :
    (compareState s form x d).vgprs = s.vgprs := by cases x <;> simp [compareState]
@[simp] theorem compareState_m0 (s : State) (form : Form) (x : Bool) (d : LaneMask) :
    (compareState s form x d).m0 = s.m0 := by cases x <;> simp [compareState]
@[simp] theorem compareState_vgprHas (s : State) (form : Form) (x : Bool) (d : LaneMask) :
    (compareState s form x d).vgprHas = s.vgprHas := by cases x <;> simp [compareState]
@[simp] theorem compareState_m0Has (s : State) (form : Form) (x : Bool) (d : LaneMask) :
    (compareState s form x d).m0Has = s.m0Has := by cases x <;> simp [compareState]
@[simp] theorem compareState_signal (s : State) (form : Form) (x : Bool) (d : LaneMask) :
    (compareState s form x d).signal = s.signal := by cases x <;> simp [compareState]
@[simp] theorem compareState_mem (s : State) (form : Form) (x : Bool) (d : LaneMask) :
    (compareState s form x d).mem = s.mem := by cases x <;> simp [compareState]
@[simp] theorem compareState_programBase (s : State) (form : Form) (x : Bool) (d : LaneMask) :
    (compareState s form x d).programBase = s.programBase := by cases x <;> simp [compareState]
@[simp] theorem compareState_config (s : State) (form : Form) (x : Bool) (d : LaneMask) :
    (compareState s form x d).config = s.config := by cases x <;> simp [compareState]
@[simp] theorem compareState_execMask (s : State) (form : Form) (x : Bool) (d : LaneMask) :
    (compareState s form x d).execMask = if x then d else s.execMask := by cases x <;> simp [compareState]
@[simp] theorem compareState_vcc (s : State) (form : Form) (x : Bool) (d : LaneMask) :
    (compareState s form x d).vcc = (s.writeDest form.dest d).vcc := by cases x <;> simp [compareState]
@[simp] theorem compareState_sgpr (s : State) (form : Form) (x : Bool) (d : LaneMask) (k : Nat) :
    (compareState s form x d).sgpr k = (s.writeDest form.dest d).sgpr k := by cases x <;> simp [compareState]
@[simp] theorem compareState_sgprHolds (s : State) (form : Form) (x : Bool) (d : LaneMask) (k : Nat) :
    (compareState s form x d).sgprHolds k = (s.writeDest form.dest d).sgprHolds k := by cases x <;> simp [compareState]
@[simp] theorem compareState_vccLoHas (s : State) (form : Form) (x : Bool) (d : LaneMask) :
    (compareState s form x d).vccLoHas = (s.writeDest form.dest d).vccLoHas := by cases x <;> simp [compareState]
@[simp] theorem compareState_vccHiHas (s : State) (form : Form) (x : Bool) (d : LaneMask) :
    (compareState s form x d).vccHiHas = (s.writeDest form.dest d).vccHiHas := by cases x <;> simp [compareState]

/-- An instruction reads a register with no value exactly when an executing lane has an operand with none. -/
theorem readsUnwritten_eq_true {w : Width} {s : State} {form : Form} : readsUnwritten w s form = true ↔
    ∃ L < 64, s.execMask.getLsbD L = true ∧ operandsHold w s form L = false := by
  simp only [readsUnwritten, anyLane_eq_true, Bool.and_eq_true, Bool.not_eq_true']

/-- An instruction reads no register without a value exactly when both operands hold one in every executing lane. -/
theorem readsUnwritten_eq_false {w : Width} {s : State} {form : Form} : readsUnwritten w s form = false ↔
    ∀ L, L < 64 → s.execMask.getLsbD L = true → operandsHold w s form L = true := by
  rw [Bool.eq_false_iff, Ne, readsUnwritten_eq_true]
  constructor
  · intro h L hL hx
    by_contra hn
    exact h ⟨L, hL, hx, by simpa using hn⟩
  · rintro h ⟨L, hL, hx, hn⟩
    rw [h L hL hx] at hn
    cases hn

/-- Everything the compare step can do: refuse an ill-formed term, refuse a pc that does not fit, fault on a register with no
value, or finish. -/
theorem compareStep_cases (w : Width) (mask x : Bool) (cmp sig : BitVec w.bits → BitVec w.bits → Bool) (form : Form)
    (s : State) :
    (∃ why, admitForm s.config w mask form = some why ∧ compareStep w mask x cmp sig form s = .refused (.rejected why)) ∨
    (admitForm s.config w mask form = none ∧ pcFits s.config (s.pc + form.length) = false ∧
      compareStep w mask x cmp sig form s = .refused .pcOverflow) ∨
    (admitForm s.config w mask form = none ∧ pcFits s.config (s.pc + form.length) = true ∧ readsUnwritten w s form = true ∧
      compareStep w mask x cmp sig form s = .fault .unwrittenRegister) ∨
    (admitForm s.config w mask form = none ∧ pcFits s.config (s.pc + form.length) = true ∧ readsUnwritten w s form = false ∧
      compareStep w mask x cmp sig form s =
        finishCompare s form x (fun L => cmp (operand0 w s form L) (operand1 w s form L))
          (fun L => sig (operand0 w s form L) (operand1 w s form L))) := by
  unfold compareStep
  cases admitForm s.config w mask form with
  | some why => exact .inl ⟨why, rfl, rfl⟩
  | none => cases pcFits s.config (s.pc + form.length) <;> cases readsUnwritten w s form <;> simp

/-- Everything a next state of the compare step can be: the compare state, with SIGNAL set if a lane signalled. -/
theorem compareStep_next {w : Width} {mask x : Bool} {cmp sig : BitVec w.bits → BitVec w.bits → Bool} {form : Form}
    {s t : State} (h : compareStep w mask x cmp sig form s = .next t) :
    admitForm s.config w mask form = none ∧ pcFits s.config (s.pc + form.length) = true ∧ readsUnwritten w s form = false ∧
    ∃ d, d = resultMask s (fun L => cmp (operand0 w s form L) (operand1 w s form L)) ∧
      (t = compareState s form x d ∨ t = (compareState s form x d).setSignal) := by
  rcases compareStep_cases w mask x cmp sig form s with ⟨why, _, e⟩ | ⟨_, _, e⟩ | ⟨_, _, _, e⟩ | ⟨ha, hp, hr, e⟩
  · rw [e] at h; cases h
  · rw [e] at h; cases h
  · rw [e] at h; cases h
  · refine ⟨ha, hp, hr, _, rfl, ?_⟩
    rw [e, finishCompare_eq] at h
    split at h
    · exact .inr (raiseSignal_next.1 h).2
    · exact .inl (Host.Outcome.next.inj h).symm

end Sys2Proof.Machine
end

