-- ==== Sys2Proof/Laws/Exec.lean ====
section
/-! SUPPORT. Every instruction is one instance of the step of 40_vopc_common.md R120, selected by the bits of its opcode
(30_encoding.md R93 to R96). -/

namespace Sys2Proof.Machine

/-- OP16 by offset (30_encoding.md R94). -/
def op16At : Nat → Op16
  | 0 => .f
  | 1 => .lt
  | 2 => .eq
  | 3 => .le
  | 4 => .gt
  | 5 => .lg
  | 6 => .ge
  | 7 => .o
  | 8 => .u
  | 9 => .nge
  | 10 => .nlg
  | 11 => .ngt
  | 12 => .nle
  | 13 => .neq
  | 14 => .nlt
  | _ => .t

/-- OP8 by offset (30_encoding.md R95). -/
def op8At : Nat → Op8
  | 0 => .f
  | 1 => .lt
  | 2 => .eq
  | 3 => .le
  | 4 => .gt
  | 5 => .lg
  | 6 => .ge
  | _ => .t

/-- The format an opcode's bit 5 selects (30_encoding.md R93). -/
def formatAt (op : Nat) : FpFormat := if op / 32 % 2 = 1 then binary64 else binary32

/-- The denormal mode of the format an opcode's bit 5 selects (40_vopc_common.md R134). -/
def denormAt (cfg : Config) (op : Nat) : DenormMode := if op / 32 % 2 = 1 then cfg.denormF64 else cfg.denormF32

/-- The lane function of opcode `op` (30_encoding.md R93). -/
def laneCmp (cfg : Config) (op : Nat) : BitVec (opcodeWidth op).bits → BitVec (opcodeWidth op).bits → Bool :=
  if op < 128 then floatCompare (formatAt op) (denormAt cfg op) cfg.uReading (op16At (op % 16))
  else if op % 16 = 8 then classTest (formatAt op)
  else if op / 64 % 2 = 1 then unsignedCompare (op8At (op % 16))
  else signedCompare (op8At (op % 16))

/-- The signalling function of opcode `op` (40_vopc_common.md R131). -/
def laneSig (cfg : Config) (op : Nat) : BitVec (opcodeWidth op).bits → BitVec (opcodeWidth op).bits → Bool :=
  if op < 128 then floatSignals (formatAt op) (denormAt cfg op) (if op / 64 % 2 = 1 then .anyNaN else .sNaNOnly)
  else neverSignals

/-- The instruction's meaning is the compare step that opcode `op` selects. -/
def StepShape (op : Nat) (i : Instr) : Prop := ∀ s, exec i s =
  compareStep (opcodeWidth op) (opcodeHasMask64 op) (decide (op / 16 % 2 = 1)) (laneCmp s.config op) (laneSig s.config op) i.form s

theorem vCmpFF32_shape (form : Form) : StepShape 0x00 (.vCmpFF32 form) := fun _ => rfl
theorem vCmpLtF32_shape (form : Form) : StepShape 0x01 (.vCmpLtF32 form) := fun _ => rfl
theorem vCmpEqF32_shape (form : Form) : StepShape 0x02 (.vCmpEqF32 form) := fun _ => rfl
theorem vCmpLeF32_shape (form : Form) : StepShape 0x03 (.vCmpLeF32 form) := fun _ => rfl
theorem vCmpGtF32_shape (form : Form) : StepShape 0x04 (.vCmpGtF32 form) := fun _ => rfl
theorem vCmpLgF32_shape (form : Form) : StepShape 0x05 (.vCmpLgF32 form) := fun _ => rfl
theorem vCmpGeF32_shape (form : Form) : StepShape 0x06 (.vCmpGeF32 form) := fun _ => rfl
theorem vCmpOF32_shape (form : Form) : StepShape 0x07 (.vCmpOF32 form) := fun _ => rfl
theorem vCmpUF32_shape (form : Form) : StepShape 0x08 (.vCmpUF32 form) := fun _ => rfl
theorem vCmpNgeF32_shape (form : Form) : StepShape 0x09 (.vCmpNgeF32 form) := fun _ => rfl
theorem vCmpNlgF32_shape (form : Form) : StepShape 0x0A (.vCmpNlgF32 form) := fun _ => rfl
theorem vCmpNgtF32_shape (form : Form) : StepShape 0x0B (.vCmpNgtF32 form) := fun _ => rfl
theorem vCmpNleF32_shape (form : Form) : StepShape 0x0C (.vCmpNleF32 form) := fun _ => rfl
theorem vCmpNeqF32_shape (form : Form) : StepShape 0x0D (.vCmpNeqF32 form) := fun _ => rfl
theorem vCmpNltF32_shape (form : Form) : StepShape 0x0E (.vCmpNltF32 form) := fun _ => rfl
theorem vCmpTF32_shape (form : Form) : StepShape 0x0F (.vCmpTF32 form) := fun _ => rfl
theorem vCmpxFF32_shape (form : Form) : StepShape 0x10 (.vCmpxFF32 form) := fun _ => rfl
theorem vCmpxLtF32_shape (form : Form) : StepShape 0x11 (.vCmpxLtF32 form) := fun _ => rfl
theorem vCmpxEqF32_shape (form : Form) : StepShape 0x12 (.vCmpxEqF32 form) := fun _ => rfl
theorem vCmpxLeF32_shape (form : Form) : StepShape 0x13 (.vCmpxLeF32 form) := fun _ => rfl
theorem vCmpxGtF32_shape (form : Form) : StepShape 0x14 (.vCmpxGtF32 form) := fun _ => rfl
theorem vCmpxLgF32_shape (form : Form) : StepShape 0x15 (.vCmpxLgF32 form) := fun _ => rfl
theorem vCmpxGeF32_shape (form : Form) : StepShape 0x16 (.vCmpxGeF32 form) := fun _ => rfl
theorem vCmpxOF32_shape (form : Form) : StepShape 0x17 (.vCmpxOF32 form) := fun _ => rfl
theorem vCmpxUF32_shape (form : Form) : StepShape 0x18 (.vCmpxUF32 form) := fun _ => rfl
theorem vCmpxNgeF32_shape (form : Form) : StepShape 0x19 (.vCmpxNgeF32 form) := fun _ => rfl
theorem vCmpxNlgF32_shape (form : Form) : StepShape 0x1A (.vCmpxNlgF32 form) := fun _ => rfl
theorem vCmpxNgtF32_shape (form : Form) : StepShape 0x1B (.vCmpxNgtF32 form) := fun _ => rfl
theorem vCmpxNleF32_shape (form : Form) : StepShape 0x1C (.vCmpxNleF32 form) := fun _ => rfl
theorem vCmpxNeqF32_shape (form : Form) : StepShape 0x1D (.vCmpxNeqF32 form) := fun _ => rfl
theorem vCmpxNltF32_shape (form : Form) : StepShape 0x1E (.vCmpxNltF32 form) := fun _ => rfl
theorem vCmpxTF32_shape (form : Form) : StepShape 0x1F (.vCmpxTF32 form) := fun _ => rfl
theorem vCmpFF64_shape (form : Form) : StepShape 0x20 (.vCmpFF64 form) := fun _ => rfl
theorem vCmpLtF64_shape (form : Form) : StepShape 0x21 (.vCmpLtF64 form) := fun _ => rfl
theorem vCmpEqF64_shape (form : Form) : StepShape 0x22 (.vCmpEqF64 form) := fun _ => rfl
theorem vCmpLeF64_shape (form : Form) : StepShape 0x23 (.vCmpLeF64 form) := fun _ => rfl
theorem vCmpGtF64_shape (form : Form) : StepShape 0x24 (.vCmpGtF64 form) := fun _ => rfl
theorem vCmpLgF64_shape (form : Form) : StepShape 0x25 (.vCmpLgF64 form) := fun _ => rfl
theorem vCmpGeF64_shape (form : Form) : StepShape 0x26 (.vCmpGeF64 form) := fun _ => rfl
theorem vCmpOF64_shape (form : Form) : StepShape 0x27 (.vCmpOF64 form) := fun _ => rfl
theorem vCmpUF64_shape (form : Form) : StepShape 0x28 (.vCmpUF64 form) := fun _ => rfl
theorem vCmpNgeF64_shape (form : Form) : StepShape 0x29 (.vCmpNgeF64 form) := fun _ => rfl
theorem vCmpNlgF64_shape (form : Form) : StepShape 0x2A (.vCmpNlgF64 form) := fun _ => rfl
theorem vCmpNgtF64_shape (form : Form) : StepShape 0x2B (.vCmpNgtF64 form) := fun _ => rfl
theorem vCmpNleF64_shape (form : Form) : StepShape 0x2C (.vCmpNleF64 form) := fun _ => rfl
theorem vCmpNeqF64_shape (form : Form) : StepShape 0x2D (.vCmpNeqF64 form) := fun _ => rfl
theorem vCmpNltF64_shape (form : Form) : StepShape 0x2E (.vCmpNltF64 form) := fun _ => rfl
theorem vCmpTF64_shape (form : Form) : StepShape 0x2F (.vCmpTF64 form) := fun _ => rfl
theorem vCmpxFF64_shape (form : Form) : StepShape 0x30 (.vCmpxFF64 form) := fun _ => rfl
theorem vCmpxLtF64_shape (form : Form) : StepShape 0x31 (.vCmpxLtF64 form) := fun _ => rfl
theorem vCmpxEqF64_shape (form : Form) : StepShape 0x32 (.vCmpxEqF64 form) := fun _ => rfl
theorem vCmpxLeF64_shape (form : Form) : StepShape 0x33 (.vCmpxLeF64 form) := fun _ => rfl
theorem vCmpxGtF64_shape (form : Form) : StepShape 0x34 (.vCmpxGtF64 form) := fun _ => rfl
theorem vCmpxLgF64_shape (form : Form) : StepShape 0x35 (.vCmpxLgF64 form) := fun _ => rfl
theorem vCmpxGeF64_shape (form : Form) : StepShape 0x36 (.vCmpxGeF64 form) := fun _ => rfl
theorem vCmpxOF64_shape (form : Form) : StepShape 0x37 (.vCmpxOF64 form) := fun _ => rfl
theorem vCmpxUF64_shape (form : Form) : StepShape 0x38 (.vCmpxUF64 form) := fun _ => rfl
theorem vCmpxNgeF64_shape (form : Form) : StepShape 0x39 (.vCmpxNgeF64 form) := fun _ => rfl
theorem vCmpxNlgF64_shape (form : Form) : StepShape 0x3A (.vCmpxNlgF64 form) := fun _ => rfl
theorem vCmpxNgtF64_shape (form : Form) : StepShape 0x3B (.vCmpxNgtF64 form) := fun _ => rfl
theorem vCmpxNleF64_shape (form : Form) : StepShape 0x3C (.vCmpxNleF64 form) := fun _ => rfl
theorem vCmpxNeqF64_shape (form : Form) : StepShape 0x3D (.vCmpxNeqF64 form) := fun _ => rfl
theorem vCmpxNltF64_shape (form : Form) : StepShape 0x3E (.vCmpxNltF64 form) := fun _ => rfl
theorem vCmpxTF64_shape (form : Form) : StepShape 0x3F (.vCmpxTF64 form) := fun _ => rfl
theorem vCmpsFF32_shape (form : Form) : StepShape 0x40 (.vCmpsFF32 form) := fun _ => rfl
theorem vCmpsLtF32_shape (form : Form) : StepShape 0x41 (.vCmpsLtF32 form) := fun _ => rfl
theorem vCmpsEqF32_shape (form : Form) : StepShape 0x42 (.vCmpsEqF32 form) := fun _ => rfl
theorem vCmpsLeF32_shape (form : Form) : StepShape 0x43 (.vCmpsLeF32 form) := fun _ => rfl
theorem vCmpsGtF32_shape (form : Form) : StepShape 0x44 (.vCmpsGtF32 form) := fun _ => rfl
theorem vCmpsLgF32_shape (form : Form) : StepShape 0x45 (.vCmpsLgF32 form) := fun _ => rfl
theorem vCmpsGeF32_shape (form : Form) : StepShape 0x46 (.vCmpsGeF32 form) := fun _ => rfl
theorem vCmpsOF32_shape (form : Form) : StepShape 0x47 (.vCmpsOF32 form) := fun _ => rfl
theorem vCmpsUF32_shape (form : Form) : StepShape 0x48 (.vCmpsUF32 form) := fun _ => rfl
theorem vCmpsNgeF32_shape (form : Form) : StepShape 0x49 (.vCmpsNgeF32 form) := fun _ => rfl
theorem vCmpsNlgF32_shape (form : Form) : StepShape 0x4A (.vCmpsNlgF32 form) := fun _ => rfl
theorem vCmpsNgtF32_shape (form : Form) : StepShape 0x4B (.vCmpsNgtF32 form) := fun _ => rfl
theorem vCmpsNleF32_shape (form : Form) : StepShape 0x4C (.vCmpsNleF32 form) := fun _ => rfl
theorem vCmpsNeqF32_shape (form : Form) : StepShape 0x4D (.vCmpsNeqF32 form) := fun _ => rfl
theorem vCmpsNltF32_shape (form : Form) : StepShape 0x4E (.vCmpsNltF32 form) := fun _ => rfl
theorem vCmpsTF32_shape (form : Form) : StepShape 0x4F (.vCmpsTF32 form) := fun _ => rfl
theorem vCmpsxFF32_shape (form : Form) : StepShape 0x50 (.vCmpsxFF32 form) := fun _ => rfl
theorem vCmpsxLtF32_shape (form : Form) : StepShape 0x51 (.vCmpsxLtF32 form) := fun _ => rfl
theorem vCmpsxEqF32_shape (form : Form) : StepShape 0x52 (.vCmpsxEqF32 form) := fun _ => rfl
theorem vCmpsxLeF32_shape (form : Form) : StepShape 0x53 (.vCmpsxLeF32 form) := fun _ => rfl
theorem vCmpsxGtF32_shape (form : Form) : StepShape 0x54 (.vCmpsxGtF32 form) := fun _ => rfl
theorem vCmpsxLgF32_shape (form : Form) : StepShape 0x55 (.vCmpsxLgF32 form) := fun _ => rfl
theorem vCmpsxGeF32_shape (form : Form) : StepShape 0x56 (.vCmpsxGeF32 form) := fun _ => rfl
theorem vCmpsxOF32_shape (form : Form) : StepShape 0x57 (.vCmpsxOF32 form) := fun _ => rfl
theorem vCmpsxUF32_shape (form : Form) : StepShape 0x58 (.vCmpsxUF32 form) := fun _ => rfl
theorem vCmpsxNgeF32_shape (form : Form) : StepShape 0x59 (.vCmpsxNgeF32 form) := fun _ => rfl
theorem vCmpsxNlgF32_shape (form : Form) : StepShape 0x5A (.vCmpsxNlgF32 form) := fun _ => rfl
theorem vCmpsxNgtF32_shape (form : Form) : StepShape 0x5B (.vCmpsxNgtF32 form) := fun _ => rfl
theorem vCmpsxNleF32_shape (form : Form) : StepShape 0x5C (.vCmpsxNleF32 form) := fun _ => rfl
theorem vCmpsxNeqF32_shape (form : Form) : StepShape 0x5D (.vCmpsxNeqF32 form) := fun _ => rfl
theorem vCmpsxNltF32_shape (form : Form) : StepShape 0x5E (.vCmpsxNltF32 form) := fun _ => rfl
theorem vCmpsxTF32_shape (form : Form) : StepShape 0x5F (.vCmpsxTF32 form) := fun _ => rfl
theorem vCmpsFF64_shape (form : Form) : StepShape 0x60 (.vCmpsFF64 form) := fun _ => rfl
theorem vCmpsLtF64_shape (form : Form) : StepShape 0x61 (.vCmpsLtF64 form) := fun _ => rfl
theorem vCmpsEqF64_shape (form : Form) : StepShape 0x62 (.vCmpsEqF64 form) := fun _ => rfl
theorem vCmpsLeF64_shape (form : Form) : StepShape 0x63 (.vCmpsLeF64 form) := fun _ => rfl
theorem vCmpsGtF64_shape (form : Form) : StepShape 0x64 (.vCmpsGtF64 form) := fun _ => rfl
theorem vCmpsLgF64_shape (form : Form) : StepShape 0x65 (.vCmpsLgF64 form) := fun _ => rfl
theorem vCmpsGeF64_shape (form : Form) : StepShape 0x66 (.vCmpsGeF64 form) := fun _ => rfl
theorem vCmpsOF64_shape (form : Form) : StepShape 0x67 (.vCmpsOF64 form) := fun _ => rfl
theorem vCmpsUF64_shape (form : Form) : StepShape 0x68 (.vCmpsUF64 form) := fun _ => rfl
theorem vCmpsNgeF64_shape (form : Form) : StepShape 0x69 (.vCmpsNgeF64 form) := fun _ => rfl
theorem vCmpsNlgF64_shape (form : Form) : StepShape 0x6A (.vCmpsNlgF64 form) := fun _ => rfl
theorem vCmpsNgtF64_shape (form : Form) : StepShape 0x6B (.vCmpsNgtF64 form) := fun _ => rfl
theorem vCmpsNleF64_shape (form : Form) : StepShape 0x6C (.vCmpsNleF64 form) := fun _ => rfl
theorem vCmpsNeqF64_shape (form : Form) : StepShape 0x6D (.vCmpsNeqF64 form) := fun _ => rfl
theorem vCmpsNltF64_shape (form : Form) : StepShape 0x6E (.vCmpsNltF64 form) := fun _ => rfl
theorem vCmpsTF64_shape (form : Form) : StepShape 0x6F (.vCmpsTF64 form) := fun _ => rfl
theorem vCmpsxFF64_shape (form : Form) : StepShape 0x70 (.vCmpsxFF64 form) := fun _ => rfl
theorem vCmpsxLtF64_shape (form : Form) : StepShape 0x71 (.vCmpsxLtF64 form) := fun _ => rfl
theorem vCmpsxEqF64_shape (form : Form) : StepShape 0x72 (.vCmpsxEqF64 form) := fun _ => rfl
theorem vCmpsxLeF64_shape (form : Form) : StepShape 0x73 (.vCmpsxLeF64 form) := fun _ => rfl
theorem vCmpsxGtF64_shape (form : Form) : StepShape 0x74 (.vCmpsxGtF64 form) := fun _ => rfl
theorem vCmpsxLgF64_shape (form : Form) : StepShape 0x75 (.vCmpsxLgF64 form) := fun _ => rfl
theorem vCmpsxGeF64_shape (form : Form) : StepShape 0x76 (.vCmpsxGeF64 form) := fun _ => rfl
theorem vCmpsxOF64_shape (form : Form) : StepShape 0x77 (.vCmpsxOF64 form) := fun _ => rfl
theorem vCmpsxUF64_shape (form : Form) : StepShape 0x78 (.vCmpsxUF64 form) := fun _ => rfl
theorem vCmpsxNgeF64_shape (form : Form) : StepShape 0x79 (.vCmpsxNgeF64 form) := fun _ => rfl
theorem vCmpsxNlgF64_shape (form : Form) : StepShape 0x7A (.vCmpsxNlgF64 form) := fun _ => rfl
theorem vCmpsxNgtF64_shape (form : Form) : StepShape 0x7B (.vCmpsxNgtF64 form) := fun _ => rfl
theorem vCmpsxNleF64_shape (form : Form) : StepShape 0x7C (.vCmpsxNleF64 form) := fun _ => rfl
theorem vCmpsxNeqF64_shape (form : Form) : StepShape 0x7D (.vCmpsxNeqF64 form) := fun _ => rfl
theorem vCmpsxNltF64_shape (form : Form) : StepShape 0x7E (.vCmpsxNltF64 form) := fun _ => rfl
theorem vCmpsxTF64_shape (form : Form) : StepShape 0x7F (.vCmpsxTF64 form) := fun _ => rfl
theorem vCmpFI32_shape (form : Form) : StepShape 0x80 (.vCmpFI32 form) := fun _ => rfl
theorem vCmpLtI32_shape (form : Form) : StepShape 0x81 (.vCmpLtI32 form) := fun _ => rfl
theorem vCmpEqI32_shape (form : Form) : StepShape 0x82 (.vCmpEqI32 form) := fun _ => rfl
theorem vCmpLeI32_shape (form : Form) : StepShape 0x83 (.vCmpLeI32 form) := fun _ => rfl
theorem vCmpGtI32_shape (form : Form) : StepShape 0x84 (.vCmpGtI32 form) := fun _ => rfl
theorem vCmpLgI32_shape (form : Form) : StepShape 0x85 (.vCmpLgI32 form) := fun _ => rfl
theorem vCmpGeI32_shape (form : Form) : StepShape 0x86 (.vCmpGeI32 form) := fun _ => rfl
theorem vCmpTI32_shape (form : Form) : StepShape 0x87 (.vCmpTI32 form) := fun _ => rfl
theorem vCmpClassF32_shape (form : Form) : StepShape 0x88 (.vCmpClassF32 form) := fun _ => rfl
theorem vCmpxFI32_shape (form : Form) : StepShape 0x90 (.vCmpxFI32 form) := fun _ => rfl
theorem vCmpxLtI32_shape (form : Form) : StepShape 0x91 (.vCmpxLtI32 form) := fun _ => rfl
theorem vCmpxEqI32_shape (form : Form) : StepShape 0x92 (.vCmpxEqI32 form) := fun _ => rfl
theorem vCmpxLeI32_shape (form : Form) : StepShape 0x93 (.vCmpxLeI32 form) := fun _ => rfl
theorem vCmpxGtI32_shape (form : Form) : StepShape 0x94 (.vCmpxGtI32 form) := fun _ => rfl
theorem vCmpxLgI32_shape (form : Form) : StepShape 0x95 (.vCmpxLgI32 form) := fun _ => rfl
theorem vCmpxGeI32_shape (form : Form) : StepShape 0x96 (.vCmpxGeI32 form) := fun _ => rfl
theorem vCmpxTI32_shape (form : Form) : StepShape 0x97 (.vCmpxTI32 form) := fun _ => rfl
theorem vCmpxClassF32_shape (form : Form) : StepShape 0x98 (.vCmpxClassF32 form) := fun _ => rfl
theorem vCmpFI64_shape (form : Form) : StepShape 0xA0 (.vCmpFI64 form) := fun _ => rfl
theorem vCmpLtI64_shape (form : Form) : StepShape 0xA1 (.vCmpLtI64 form) := fun _ => rfl
theorem vCmpEqI64_shape (form : Form) : StepShape 0xA2 (.vCmpEqI64 form) := fun _ => rfl
theorem vCmpLeI64_shape (form : Form) : StepShape 0xA3 (.vCmpLeI64 form) := fun _ => rfl
theorem vCmpGtI64_shape (form : Form) : StepShape 0xA4 (.vCmpGtI64 form) := fun _ => rfl
theorem vCmpLgI64_shape (form : Form) : StepShape 0xA5 (.vCmpLgI64 form) := fun _ => rfl
theorem vCmpGeI64_shape (form : Form) : StepShape 0xA6 (.vCmpGeI64 form) := fun _ => rfl
theorem vCmpTI64_shape (form : Form) : StepShape 0xA7 (.vCmpTI64 form) := fun _ => rfl
theorem vCmpClassF64_shape (form : Form) : StepShape 0xA8 (.vCmpClassF64 form) := fun _ => rfl
theorem vCmpxFI64_shape (form : Form) : StepShape 0xB0 (.vCmpxFI64 form) := fun _ => rfl
theorem vCmpxLtI64_shape (form : Form) : StepShape 0xB1 (.vCmpxLtI64 form) := fun _ => rfl
theorem vCmpxEqI64_shape (form : Form) : StepShape 0xB2 (.vCmpxEqI64 form) := fun _ => rfl
theorem vCmpxLeI64_shape (form : Form) : StepShape 0xB3 (.vCmpxLeI64 form) := fun _ => rfl
theorem vCmpxGtI64_shape (form : Form) : StepShape 0xB4 (.vCmpxGtI64 form) := fun _ => rfl
theorem vCmpxLgI64_shape (form : Form) : StepShape 0xB5 (.vCmpxLgI64 form) := fun _ => rfl
theorem vCmpxGeI64_shape (form : Form) : StepShape 0xB6 (.vCmpxGeI64 form) := fun _ => rfl
theorem vCmpxTI64_shape (form : Form) : StepShape 0xB7 (.vCmpxTI64 form) := fun _ => rfl
theorem vCmpxClassF64_shape (form : Form) : StepShape 0xB8 (.vCmpxClassF64 form) := fun _ => rfl
theorem vCmpFU32_shape (form : Form) : StepShape 0xC0 (.vCmpFU32 form) := fun _ => rfl
theorem vCmpLtU32_shape (form : Form) : StepShape 0xC1 (.vCmpLtU32 form) := fun _ => rfl
theorem vCmpEqU32_shape (form : Form) : StepShape 0xC2 (.vCmpEqU32 form) := fun _ => rfl
theorem vCmpLeU32_shape (form : Form) : StepShape 0xC3 (.vCmpLeU32 form) := fun _ => rfl
theorem vCmpGtU32_shape (form : Form) : StepShape 0xC4 (.vCmpGtU32 form) := fun _ => rfl
theorem vCmpLgU32_shape (form : Form) : StepShape 0xC5 (.vCmpLgU32 form) := fun _ => rfl
theorem vCmpGeU32_shape (form : Form) : StepShape 0xC6 (.vCmpGeU32 form) := fun _ => rfl
theorem vCmpTU32_shape (form : Form) : StepShape 0xC7 (.vCmpTU32 form) := fun _ => rfl
theorem vCmpxFU32_shape (form : Form) : StepShape 0xD0 (.vCmpxFU32 form) := fun _ => rfl
theorem vCmpxLtU32_shape (form : Form) : StepShape 0xD1 (.vCmpxLtU32 form) := fun _ => rfl
theorem vCmpxEqU32_shape (form : Form) : StepShape 0xD2 (.vCmpxEqU32 form) := fun _ => rfl
theorem vCmpxLeU32_shape (form : Form) : StepShape 0xD3 (.vCmpxLeU32 form) := fun _ => rfl
theorem vCmpxGtU32_shape (form : Form) : StepShape 0xD4 (.vCmpxGtU32 form) := fun _ => rfl
theorem vCmpxLgU32_shape (form : Form) : StepShape 0xD5 (.vCmpxLgU32 form) := fun _ => rfl
theorem vCmpxGeU32_shape (form : Form) : StepShape 0xD6 (.vCmpxGeU32 form) := fun _ => rfl
theorem vCmpxTU32_shape (form : Form) : StepShape 0xD7 (.vCmpxTU32 form) := fun _ => rfl
theorem vCmpFU64_shape (form : Form) : StepShape 0xE0 (.vCmpFU64 form) := fun _ => rfl
theorem vCmpLtU64_shape (form : Form) : StepShape 0xE1 (.vCmpLtU64 form) := fun _ => rfl
theorem vCmpEqU64_shape (form : Form) : StepShape 0xE2 (.vCmpEqU64 form) := fun _ => rfl
theorem vCmpLeU64_shape (form : Form) : StepShape 0xE3 (.vCmpLeU64 form) := fun _ => rfl
theorem vCmpGtU64_shape (form : Form) : StepShape 0xE4 (.vCmpGtU64 form) := fun _ => rfl
theorem vCmpLgU64_shape (form : Form) : StepShape 0xE5 (.vCmpLgU64 form) := fun _ => rfl
theorem vCmpGeU64_shape (form : Form) : StepShape 0xE6 (.vCmpGeU64 form) := fun _ => rfl
theorem vCmpTU64_shape (form : Form) : StepShape 0xE7 (.vCmpTU64 form) := fun _ => rfl
theorem vCmpxFU64_shape (form : Form) : StepShape 0xF0 (.vCmpxFU64 form) := fun _ => rfl
theorem vCmpxLtU64_shape (form : Form) : StepShape 0xF1 (.vCmpxLtU64 form) := fun _ => rfl
theorem vCmpxEqU64_shape (form : Form) : StepShape 0xF2 (.vCmpxEqU64 form) := fun _ => rfl
theorem vCmpxLeU64_shape (form : Form) : StepShape 0xF3 (.vCmpxLeU64 form) := fun _ => rfl
theorem vCmpxGtU64_shape (form : Form) : StepShape 0xF4 (.vCmpxGtU64 form) := fun _ => rfl
theorem vCmpxLgU64_shape (form : Form) : StepShape 0xF5 (.vCmpxLgU64 form) := fun _ => rfl
theorem vCmpxGeU64_shape (form : Form) : StepShape 0xF6 (.vCmpxGeU64 form) := fun _ => rfl
theorem vCmpxTU64_shape (form : Form) : StepShape 0xF7 (.vCmpxTU64 form) := fun _ => rfl

/-- Every instruction has the shape of its own opcode. -/
theorem exec_shape (i : Instr) : StepShape i.opcode i :=
  match i with
  | .vCmpFF32 form => vCmpFF32_shape form
  | .vCmpLtF32 form => vCmpLtF32_shape form
  | .vCmpEqF32 form => vCmpEqF32_shape form
  | .vCmpLeF32 form => vCmpLeF32_shape form
  | .vCmpGtF32 form => vCmpGtF32_shape form
  | .vCmpLgF32 form => vCmpLgF32_shape form
  | .vCmpGeF32 form => vCmpGeF32_shape form
  | .vCmpOF32 form => vCmpOF32_shape form
  | .vCmpUF32 form => vCmpUF32_shape form
  | .vCmpNgeF32 form => vCmpNgeF32_shape form
  | .vCmpNlgF32 form => vCmpNlgF32_shape form
  | .vCmpNgtF32 form => vCmpNgtF32_shape form
  | .vCmpNleF32 form => vCmpNleF32_shape form
  | .vCmpNeqF32 form => vCmpNeqF32_shape form
  | .vCmpNltF32 form => vCmpNltF32_shape form
  | .vCmpTF32 form => vCmpTF32_shape form
  | .vCmpxFF32 form => vCmpxFF32_shape form
  | .vCmpxLtF32 form => vCmpxLtF32_shape form
  | .vCmpxEqF32 form => vCmpxEqF32_shape form
  | .vCmpxLeF32 form => vCmpxLeF32_shape form
  | .vCmpxGtF32 form => vCmpxGtF32_shape form
  | .vCmpxLgF32 form => vCmpxLgF32_shape form
  | .vCmpxGeF32 form => vCmpxGeF32_shape form
  | .vCmpxOF32 form => vCmpxOF32_shape form
  | .vCmpxUF32 form => vCmpxUF32_shape form
  | .vCmpxNgeF32 form => vCmpxNgeF32_shape form
  | .vCmpxNlgF32 form => vCmpxNlgF32_shape form
  | .vCmpxNgtF32 form => vCmpxNgtF32_shape form
  | .vCmpxNleF32 form => vCmpxNleF32_shape form
  | .vCmpxNeqF32 form => vCmpxNeqF32_shape form
  | .vCmpxNltF32 form => vCmpxNltF32_shape form
  | .vCmpxTF32 form => vCmpxTF32_shape form
  | .vCmpFF64 form => vCmpFF64_shape form
  | .vCmpLtF64 form => vCmpLtF64_shape form
  | .vCmpEqF64 form => vCmpEqF64_shape form
  | .vCmpLeF64 form => vCmpLeF64_shape form
  | .vCmpGtF64 form => vCmpGtF64_shape form
  | .vCmpLgF64 form => vCmpLgF64_shape form
  | .vCmpGeF64 form => vCmpGeF64_shape form
  | .vCmpOF64 form => vCmpOF64_shape form
  | .vCmpUF64 form => vCmpUF64_shape form
  | .vCmpNgeF64 form => vCmpNgeF64_shape form
  | .vCmpNlgF64 form => vCmpNlgF64_shape form
  | .vCmpNgtF64 form => vCmpNgtF64_shape form
  | .vCmpNleF64 form => vCmpNleF64_shape form
  | .vCmpNeqF64 form => vCmpNeqF64_shape form
  | .vCmpNltF64 form => vCmpNltF64_shape form
  | .vCmpTF64 form => vCmpTF64_shape form
  | .vCmpxFF64 form => vCmpxFF64_shape form
  | .vCmpxLtF64 form => vCmpxLtF64_shape form
  | .vCmpxEqF64 form => vCmpxEqF64_shape form
  | .vCmpxLeF64 form => vCmpxLeF64_shape form
  | .vCmpxGtF64 form => vCmpxGtF64_shape form
  | .vCmpxLgF64 form => vCmpxLgF64_shape form
  | .vCmpxGeF64 form => vCmpxGeF64_shape form
  | .vCmpxOF64 form => vCmpxOF64_shape form
  | .vCmpxUF64 form => vCmpxUF64_shape form
  | .vCmpxNgeF64 form => vCmpxNgeF64_shape form
  | .vCmpxNlgF64 form => vCmpxNlgF64_shape form
  | .vCmpxNgtF64 form => vCmpxNgtF64_shape form
  | .vCmpxNleF64 form => vCmpxNleF64_shape form
  | .vCmpxNeqF64 form => vCmpxNeqF64_shape form
  | .vCmpxNltF64 form => vCmpxNltF64_shape form
  | .vCmpxTF64 form => vCmpxTF64_shape form
  | .vCmpsFF32 form => vCmpsFF32_shape form
  | .vCmpsLtF32 form => vCmpsLtF32_shape form
  | .vCmpsEqF32 form => vCmpsEqF32_shape form
  | .vCmpsLeF32 form => vCmpsLeF32_shape form
  | .vCmpsGtF32 form => vCmpsGtF32_shape form
  | .vCmpsLgF32 form => vCmpsLgF32_shape form
  | .vCmpsGeF32 form => vCmpsGeF32_shape form
  | .vCmpsOF32 form => vCmpsOF32_shape form
  | .vCmpsUF32 form => vCmpsUF32_shape form
  | .vCmpsNgeF32 form => vCmpsNgeF32_shape form
  | .vCmpsNlgF32 form => vCmpsNlgF32_shape form
  | .vCmpsNgtF32 form => vCmpsNgtF32_shape form
  | .vCmpsNleF32 form => vCmpsNleF32_shape form
  | .vCmpsNeqF32 form => vCmpsNeqF32_shape form
  | .vCmpsNltF32 form => vCmpsNltF32_shape form
  | .vCmpsTF32 form => vCmpsTF32_shape form
  | .vCmpsxFF32 form => vCmpsxFF32_shape form
  | .vCmpsxLtF32 form => vCmpsxLtF32_shape form
  | .vCmpsxEqF32 form => vCmpsxEqF32_shape form
  | .vCmpsxLeF32 form => vCmpsxLeF32_shape form
  | .vCmpsxGtF32 form => vCmpsxGtF32_shape form
  | .vCmpsxLgF32 form => vCmpsxLgF32_shape form
  | .vCmpsxGeF32 form => vCmpsxGeF32_shape form
  | .vCmpsxOF32 form => vCmpsxOF32_shape form
  | .vCmpsxUF32 form => vCmpsxUF32_shape form
  | .vCmpsxNgeF32 form => vCmpsxNgeF32_shape form
  | .vCmpsxNlgF32 form => vCmpsxNlgF32_shape form
  | .vCmpsxNgtF32 form => vCmpsxNgtF32_shape form
  | .vCmpsxNleF32 form => vCmpsxNleF32_shape form
  | .vCmpsxNeqF32 form => vCmpsxNeqF32_shape form
  | .vCmpsxNltF32 form => vCmpsxNltF32_shape form
  | .vCmpsxTF32 form => vCmpsxTF32_shape form
  | .vCmpsFF64 form => vCmpsFF64_shape form
  | .vCmpsLtF64 form => vCmpsLtF64_shape form
  | .vCmpsEqF64 form => vCmpsEqF64_shape form
  | .vCmpsLeF64 form => vCmpsLeF64_shape form
  | .vCmpsGtF64 form => vCmpsGtF64_shape form
  | .vCmpsLgF64 form => vCmpsLgF64_shape form
  | .vCmpsGeF64 form => vCmpsGeF64_shape form
  | .vCmpsOF64 form => vCmpsOF64_shape form
  | .vCmpsUF64 form => vCmpsUF64_shape form
  | .vCmpsNgeF64 form => vCmpsNgeF64_shape form
  | .vCmpsNlgF64 form => vCmpsNlgF64_shape form
  | .vCmpsNgtF64 form => vCmpsNgtF64_shape form
  | .vCmpsNleF64 form => vCmpsNleF64_shape form
  | .vCmpsNeqF64 form => vCmpsNeqF64_shape form
  | .vCmpsNltF64 form => vCmpsNltF64_shape form
  | .vCmpsTF64 form => vCmpsTF64_shape form
  | .vCmpsxFF64 form => vCmpsxFF64_shape form
  | .vCmpsxLtF64 form => vCmpsxLtF64_shape form
  | .vCmpsxEqF64 form => vCmpsxEqF64_shape form
  | .vCmpsxLeF64 form => vCmpsxLeF64_shape form
  | .vCmpsxGtF64 form => vCmpsxGtF64_shape form
  | .vCmpsxLgF64 form => vCmpsxLgF64_shape form
  | .vCmpsxGeF64 form => vCmpsxGeF64_shape form
  | .vCmpsxOF64 form => vCmpsxOF64_shape form
  | .vCmpsxUF64 form => vCmpsxUF64_shape form
  | .vCmpsxNgeF64 form => vCmpsxNgeF64_shape form
  | .vCmpsxNlgF64 form => vCmpsxNlgF64_shape form
  | .vCmpsxNgtF64 form => vCmpsxNgtF64_shape form
  | .vCmpsxNleF64 form => vCmpsxNleF64_shape form
  | .vCmpsxNeqF64 form => vCmpsxNeqF64_shape form
  | .vCmpsxNltF64 form => vCmpsxNltF64_shape form
  | .vCmpsxTF64 form => vCmpsxTF64_shape form
  | .vCmpFI32 form => vCmpFI32_shape form
  | .vCmpLtI32 form => vCmpLtI32_shape form
  | .vCmpEqI32 form => vCmpEqI32_shape form
  | .vCmpLeI32 form => vCmpLeI32_shape form
  | .vCmpGtI32 form => vCmpGtI32_shape form
  | .vCmpLgI32 form => vCmpLgI32_shape form
  | .vCmpGeI32 form => vCmpGeI32_shape form
  | .vCmpTI32 form => vCmpTI32_shape form
  | .vCmpClassF32 form => vCmpClassF32_shape form
  | .vCmpxFI32 form => vCmpxFI32_shape form
  | .vCmpxLtI32 form => vCmpxLtI32_shape form
  | .vCmpxEqI32 form => vCmpxEqI32_shape form
  | .vCmpxLeI32 form => vCmpxLeI32_shape form
  | .vCmpxGtI32 form => vCmpxGtI32_shape form
  | .vCmpxLgI32 form => vCmpxLgI32_shape form
  | .vCmpxGeI32 form => vCmpxGeI32_shape form
  | .vCmpxTI32 form => vCmpxTI32_shape form
  | .vCmpxClassF32 form => vCmpxClassF32_shape form
  | .vCmpFI64 form => vCmpFI64_shape form
  | .vCmpLtI64 form => vCmpLtI64_shape form
  | .vCmpEqI64 form => vCmpEqI64_shape form
  | .vCmpLeI64 form => vCmpLeI64_shape form
  | .vCmpGtI64 form => vCmpGtI64_shape form
  | .vCmpLgI64 form => vCmpLgI64_shape form
  | .vCmpGeI64 form => vCmpGeI64_shape form
  | .vCmpTI64 form => vCmpTI64_shape form
  | .vCmpClassF64 form => vCmpClassF64_shape form
  | .vCmpxFI64 form => vCmpxFI64_shape form
  | .vCmpxLtI64 form => vCmpxLtI64_shape form
  | .vCmpxEqI64 form => vCmpxEqI64_shape form
  | .vCmpxLeI64 form => vCmpxLeI64_shape form
  | .vCmpxGtI64 form => vCmpxGtI64_shape form
  | .vCmpxLgI64 form => vCmpxLgI64_shape form
  | .vCmpxGeI64 form => vCmpxGeI64_shape form
  | .vCmpxTI64 form => vCmpxTI64_shape form
  | .vCmpxClassF64 form => vCmpxClassF64_shape form
  | .vCmpFU32 form => vCmpFU32_shape form
  | .vCmpLtU32 form => vCmpLtU32_shape form
  | .vCmpEqU32 form => vCmpEqU32_shape form
  | .vCmpLeU32 form => vCmpLeU32_shape form
  | .vCmpGtU32 form => vCmpGtU32_shape form
  | .vCmpLgU32 form => vCmpLgU32_shape form
  | .vCmpGeU32 form => vCmpGeU32_shape form
  | .vCmpTU32 form => vCmpTU32_shape form
  | .vCmpxFU32 form => vCmpxFU32_shape form
  | .vCmpxLtU32 form => vCmpxLtU32_shape form
  | .vCmpxEqU32 form => vCmpxEqU32_shape form
  | .vCmpxLeU32 form => vCmpxLeU32_shape form
  | .vCmpxGtU32 form => vCmpxGtU32_shape form
  | .vCmpxLgU32 form => vCmpxLgU32_shape form
  | .vCmpxGeU32 form => vCmpxGeU32_shape form
  | .vCmpxTU32 form => vCmpxTU32_shape form
  | .vCmpFU64 form => vCmpFU64_shape form
  | .vCmpLtU64 form => vCmpLtU64_shape form
  | .vCmpEqU64 form => vCmpEqU64_shape form
  | .vCmpLeU64 form => vCmpLeU64_shape form
  | .vCmpGtU64 form => vCmpGtU64_shape form
  | .vCmpLgU64 form => vCmpLgU64_shape form
  | .vCmpGeU64 form => vCmpGeU64_shape form
  | .vCmpTU64 form => vCmpTU64_shape form
  | .vCmpxFU64 form => vCmpxFU64_shape form
  | .vCmpxLtU64 form => vCmpxLtU64_shape form
  | .vCmpxEqU64 form => vCmpxEqU64_shape form
  | .vCmpxLeU64 form => vCmpxLeU64_shape form
  | .vCmpxGtU64 form => vCmpxGtU64_shape form
  | .vCmpxLgU64 form => vCmpxLgU64_shape form
  | .vCmpxGeU64 form => vCmpxGeU64_shape form
  | .vCmpxTU64 form => vCmpxTU64_shape form

/-- Each meaning is the compare step at the width, class-mask exception, EXEC write, lane function and signalling function that its
opcode's bits select: claims over all instructions cite this and `compareStep_cases`, and unfold no meaning. -/
theorem exec_eq_compareStep (i : Instr) (s : State) : exec i s =
    compareStep (opcodeWidth i.opcode) (opcodeHasMask64 i.opcode) (decide (i.opcode / 16 % 2 = 1)) (laneCmp s.config i.opcode)
      (laneSig s.config i.opcode) i.form s :=
  exec_shape i s

/-- The lane function of an instruction on its own operands in lane `L`. -/
def cmpLane (i : Instr) (s : State) (L : Nat) : Bool :=
  laneCmp s.config i.opcode (operand0 (opcodeWidth i.opcode) s i.form L) (operand1 (opcodeWidth i.opcode) s i.form L)

/-- The signalling function of an instruction on its own operands in lane `L`. -/
def sigLane (i : Instr) (s : State) (L : Nat) : Bool :=
  laneSig s.config i.opcode (operand0 (opcodeWidth i.opcode) s i.form L) (operand1 (opcodeWidth i.opcode) s i.form L)

/-- Everything an instruction can do: refuse an ill-formed term, refuse a pc that does not fit, fault on a register with no value, or
finish the compare. -/
theorem exec_cases (i : Instr) (s : State) :
    (∃ why, i.check s.config = some why ∧ exec i s = .refused (.rejected why)) ∨
    (i.WellFormed s.config ∧ pcFits s.config (s.pc + i.form.length) = false ∧ exec i s = .refused .pcOverflow) ∨
    (i.WellFormed s.config ∧ pcFits s.config (s.pc + i.form.length) = true ∧
      readsUnwritten (opcodeWidth i.opcode) s i.form = true ∧ exec i s = .fault .unwrittenRegister) ∨
    (i.WellFormed s.config ∧ pcFits s.config (s.pc + i.form.length) = true ∧
      readsUnwritten (opcodeWidth i.opcode) s i.form = false ∧
      exec i s = finishCompare s i.form (decide (i.opcode / 16 % 2 = 1)) (cmpLane i s) (sigLane i s)) := by
  rw [exec_eq_compareStep]
  exact compareStep_cases _ _ _ _ _ _ _

/-- Everything a next state of an instruction can be. -/
theorem exec_next {i : Instr} {s t : State} (h : exec i s = .next t) :
    i.WellFormed s.config ∧ pcFits s.config (s.pc + i.form.length) = true ∧
    readsUnwritten (opcodeWidth i.opcode) s i.form = false ∧
    ∃ d, d = resultMask s (cmpLane i s) ∧
      (t = compareState s i.form (decide (i.opcode / 16 % 2 = 1)) d ∨
        t = (compareState s i.form (decide (i.opcode / 16 % 2 = 1)) d).setSignal) := by
  rw [exec_eq_compareStep] at h
  exact compareStep_next h

/-- Everything a step that goes on did: it fetched an instruction and ran it. -/
theorem step_next {s t : State} (h : step s = .next t) :
    noFetch s = none ∧ ∃ i, fetchInstr s = .ok i ∧ exec i s = .next t := by
  unfold step at h
  split at h
  · cases h
  · rename_i hn
    split at h
    · cases h
    · rename_i i hi
      exact ⟨hn, i, hi, h⟩

end Sys2Proof.Machine
end

