-- ==== Sys2Proof/Laws/Memory.lean ====
section
/-! SUPPORT. Instruction memory: reads after writes, the canonical form and its upkeep, and a placed program. -/

namespace Sys2Proof.Machine

/-- Placing a byte and reading memory back: the byte where it was placed, elsewhere what stood there. -/
theorem Memory.read_write (m : Memory) (a : Nat) (b : Byte) (a' : Nat) :
    Memory.read (Memory.write m a b) a' = if a' = a then some b else Memory.read m a' := by
  induction m with
  | nil => by_cases h : a = a' <;> simp [Memory.write, Memory.read, h, eq_comm]
  | cons c m ih =>
    obtain ⟨k, x⟩ := c
    unfold Memory.write
    split
    · by_cases h : a = a' <;> simp [Memory.read, h, eq_comm]
    · split
      · subst_vars
        by_cases h : k = a'
        · simp [Memory.read, h]
        · simp [Memory.read, h, Ne.symm h]
      · by_cases h : k = a'
        · subst h
          have : k ≠ a := by omega
          simp [Memory.read, this]
        · simp [Memory.read, h, ih]

/-- A listed address and what follows it keep the canonical form exactly when the next address is larger. -/
theorem Memory.wf_cons (c : Host.Cell) (m : Memory) :
    Memory.wf (c :: m) = true ↔ (∀ d ∈ m.head?, c.1 < d.1) ∧ Memory.wf m = true := by
  cases m <;> simp [Memory.wf]

/-- The first address of a memory with a byte placed. -/
theorem Memory.head_write (m : Memory) (a : Nat) (b : Byte) (k : Nat) (hk : k < a) (h : ∀ d ∈ m.head?, k < d.1) :
    ∀ d ∈ (Memory.write m a b).head?, k < d.1 := by
  cases m with
  | nil => simpa [Memory.write] using hk
  | cons c m =>
    obtain ⟨j, x⟩ := c
    have hj : k < j := by simpa using h
    unfold Memory.write
    split
    · simpa using hk
    · split <;> simpa

/-- Placing a byte keeps the canonical form. -/
theorem Memory.wf_write (m : Memory) (a : Nat) (b : Byte) (h : Memory.wf m = true) :
    Memory.wf (Memory.write m a b) = true := by
  induction m with
  | nil => rfl
  | cons c m ih =>
    obtain ⟨k, x⟩ := c
    have hc := (Memory.wf_cons _ _).1 h
    unfold Memory.write
    split
    · exact (Memory.wf_cons _ _).2 ⟨by simpa, h⟩
    · split
      · subst_vars
        exact (Memory.wf_cons _ _).2 ⟨by simpa using hc.1, hc.2⟩
      · exact (Memory.wf_cons _ _).2 ⟨Memory.head_write m a b k (by omega) (by simpa using hc.1), ih hc.2⟩

/-- Placing a run of bytes keeps the canonical form. -/
theorem Memory.wf_load (bs : List Byte) : ∀ (m : Memory) (a : Nat), Memory.wf m = true → Memory.wf (Memory.load m a bs) = true := by
  induction bs with
  | nil => exact fun _ _ h => h
  | cons b bs ih => exact fun m a h => ih _ _ (Memory.wf_write m a b h)

/-- Below a placed run memory reads as before. -/
theorem Memory.read_load_below (bs : List Byte) :
    ∀ (m : Memory) (a k : Nat), k < a → Memory.read (Memory.load m a bs) k = Memory.read m k := by
  induction bs with
  | nil => exact fun _ _ _ _ => rfl
  | cons b bs ih =>
    intro m a k h
    simp only [Memory.load]
    rw [ih _ _ _ (by omega), Memory.read_write, if_neg (by omega)]

/-- Placing a run of bytes and reading memory back: the run where it was placed, elsewhere what stood there. -/
theorem Memory.read_load (bs : List Byte) : ∀ (m : Memory) (a k : Nat),
    Memory.read (Memory.load m a bs) k = if h : a ≤ k ∧ k < a + bs.length then some (bs[k - a]'(by omega)) else Memory.read m k := by
  induction bs with
  | nil => intro m a k; simp [Memory.load]
  | cons b bs ih =>
    intro m a k
    simp only [Memory.load]
    rcases lt_trichotomy k a with h | h | h
    · rw [Memory.read_load_below _ _ _ _ (by omega), Memory.read_write, if_neg (by omega), dif_neg (by omega)]
    · subst h
      rw [Memory.read_load_below _ _ _ _ (by omega), Memory.read_write, if_pos rfl, dif_pos (by simp)]
      simp
    · rw [ih]
      by_cases hk : k < a + 1 + bs.length
      · rw [dif_pos ⟨by omega, hk⟩, dif_pos ⟨by omega, by simp; omega⟩]
        have : k - a = (k - (a + 1)) + 1 := by omega
        simp only [this, List.getElem_cons_succ]
      · rw [dif_neg (by omega), dif_neg (by simp; omega), Memory.read_write, if_neg (by omega)]

/-- The reset memory has the canonical form. -/
theorem Memory.wf_reset : Memory.wf State.reset.mem = true := rfl

/-- The load that stands for a launch keeps the canonical form. -/
theorem State.withFetchWord_wf (s : State) (nbits w : Nat) (h : Memory.wf s.mem = true) :
    Memory.wf (s.withFetchWord nbits w).mem = true :=
  Memory.wf_load _ _ _ h

/-- At most `n` bytes are read in a run of at most `n`. -/
theorem Memory.readRun_length_le (m : Memory) (n : Nat) : ∀ a, (Memory.readRun m a n).length ≤ n := by
  induction n with
  | zero => intro a; simp [Memory.readRun]
  | succ n ih =>
    intro a
    unfold Memory.readRun
    split
    · simp
    · simpa using ih (a + 1)

/-- A run is the bytes that stand at consecutive addresses. -/
theorem Memory.readRun_getElem (m : Memory) (n : Nat) : ∀ (a k : Nat) (h : k < (Memory.readRun m a n).length),
    Memory.read m (a + k) = some (Memory.readRun m a n)[k] := by
  induction n with
  | zero => intro a k h; simp [Memory.readRun] at h
  | succ n ih =>
    intro a k h
    cases hr : Memory.read m a with
    | none => simp [Memory.readRun, hr] at h
    | some b =>
      have e : Memory.readRun m a (n + 1) = b :: Memory.readRun m (a + 1) n := by simp [Memory.readRun, hr]
      simp only [e] at h ⊢
      cases k with
      | zero => simpa using hr
      | succ k => simpa [Nat.add_assoc, Nat.add_comm 1 k] using ih (a + 1) k (by simpa using h)

/-- Where consecutive addresses hold the bytes of a list, a run long enough begins with that list. -/
theorem Memory.readRun_of_read (m : Memory) (bs : List Byte) : ∀ (a n : Nat), bs.length ≤ n →
    (∀ k (h : k < bs.length), Memory.read m (a + k) = some bs[k]) →
    ∃ rest, Memory.readRun m a n = bs ++ rest := by
  induction bs with
  | nil => exact fun a n _ _ => ⟨_, rfl⟩
  | cons b bs ih =>
    intro a n hn hk
    obtain _ | n := n
    · simp at hn
    · have h0 : Memory.read m a = some b := by have := hk 0 (by simp); rwa [Nat.add_zero, List.getElem_cons_zero] at this
      obtain ⟨rest, hr⟩ := ih (a + 1) n (by simpa using hn) fun k h => by
        have := hk (k + 1) (by simpa using h)
        simpa [Nat.add_assoc, Nat.add_comm 1 k] using this
      exact ⟨rest, by simp [Memory.readRun, h0, hr]⟩

/-- A placed program holds a byte exactly at the addresses of `[base, base + length)` (20_memory.md R50). -/
theorem Memory.read_isSome_of_placedAt (m : Memory) : ∀ base, Memory.placedAt m base = true →
    ∀ a, (Memory.read m a).isSome = true ↔ base ≤ a ∧ a < base + m.length := by
  induction m with
  | nil => intro base _ a; simp [Memory.read]
  | cons c m ih =>
    obtain ⟨k, x⟩ := c
    intro base h a
    simp only [Memory.placedAt, Bool.and_eq_true, beq_iff_eq] at h
    obtain ⟨rfl, h⟩ := h
    have := ih (k + 1) h a
    by_cases e : k = a
    · subst e; simp [Memory.read]
    · simp only [Memory.read, e, if_false, this, List.length_cons]
      omega

/-- A placed program's run stops at its end: a limit beyond the end changes nothing (20_memory.md R50). -/
theorem Memory.readRun_min_of_placedAt (m : Memory) (base : Nat) (h : Memory.placedAt m base = true) (n : Nat) :
    ∀ a, base ≤ a → Memory.readRun m a (min n (base + m.length - a)) = Memory.readRun m a n := by
  induction n with
  | zero => intro a _; rw [Nat.zero_min]
  | succ n ih =>
    intro a ha
    by_cases hlt : a < base + m.length
    · rw [show min (n + 1) (base + m.length - a) = min n (base + m.length - (a + 1)) + 1 by omega]
      simp only [Memory.readRun]
      rw [ih (a + 1) (by omega)]
    · have hr : Memory.read m a = none := by
        rw [← Option.not_isSome_iff_eq_none, Memory.read_isSome_of_placedAt m base h]
        omega
      rw [show min (n + 1) (base + m.length - a) = 0 by omega]
      simp [Memory.readRun, hr]

/-- Placing a byte inside a placed program or at its end leaves it placed, longer by one only at its end. -/
theorem Memory.placedAt_write (b : Byte) (m : Memory) : ∀ base a, Memory.placedAt m base = true → base ≤ a → a ≤ base + m.length →
    Memory.placedAt (Memory.write m a b) base = true ∧ (Memory.write m a b).length = max m.length (a + 1 - base) := by
  induction m with
  | nil =>
    intro base a _ h1 h2
    obtain rfl : a = base := by simp at h2; omega
    simp [Memory.write, Memory.placedAt]
  | cons c m ih =>
    intro base a h h1 h2
    obtain ⟨k, x⟩ := c
    simp only [Memory.placedAt, Bool.and_eq_true, beq_iff_eq] at h
    obtain ⟨rfl, h⟩ := h
    unfold Memory.write
    rw [if_neg (by omega)]
    split
    · subst_vars
      simp [Memory.placedAt, h]
    · have := ih (k + 1) a h (by omega) (by simp at h2; omega)
      simp only [Memory.placedAt, beq_self_eq_true, Bool.true_and, List.length_cons]
      exact ⟨this.1, by omega⟩

/-- Placing a run of bytes inside a placed program or at its end leaves it placed, and long enough to hold the run. -/
theorem Memory.placedAt_load (bs : List Byte) : ∀ (m : Memory) (base a : Nat), Memory.placedAt m base = true → base ≤ a →
    a ≤ base + m.length →
    Memory.placedAt (Memory.load m a bs) base = true ∧ (Memory.load m a bs).length = max m.length (a + bs.length - base) := by
  induction bs with
  | nil => intro m base a h _ h2; exact ⟨h, by simp [Memory.load]; omega⟩
  | cons b bs ih =>
    intro m base a h h1 h2
    have hw := Memory.placedAt_write b m base a h h1 h2
    have := ih (Memory.write m a b) base (a + 1) hw.1 (by omega) (by omega)
    simp only [Memory.load, List.length_cons]
    exact ⟨this.1, by omega⟩

/-- A fetch finds at most 8 bytes, and none at or beyond PROGRAM_END. -/
theorem State.fetchBytes_length_le (s : State) : s.fetchBytes.length ≤ min 8 (s.programEnd - s.pc) := by
  unfold State.fetchBytes
  split
  · exact Memory.readRun_length_le _ _ _
  · exact Nat.zero_le _

/-- Every byte a fetch finds is the program's at its address, in `[PROGRAM_BASE, PROGRAM_END)` (20_memory.md R50). -/
theorem State.fetchBytes_getElem (s : State) (k : Nat) (h : k < s.fetchBytes.length) :
    s.programBase ≤ s.pc + k ∧ s.pc + k < s.programEnd ∧ Memory.read s.mem (s.pc + k) = some s.fetchBytes[k] := by
  have hle := s.fetchBytes_length_le
  by_cases hb : s.programBase ≤ s.pc
  · have e : s.fetchBytes = Memory.readRun s.mem s.pc (min 8 (s.programEnd - s.pc)) := if_pos hb
    refine ⟨by omega, by omega, ?_⟩
    simp only [e] at h ⊢
    exact Memory.readRun_getElem _ _ _ _ h
  · rw [State.fetchBytes, if_neg hb] at h
    cases h

/-- Where the program holds the bytes of a list from the pc on, a fetch finds that list first. -/
theorem State.fetchBytes_of_read (s : State) (bs : List Byte) (h8 : bs.length ≤ 8) (hb : s.programBase ≤ s.pc)
    (he : s.pc + bs.length ≤ s.programEnd) (h : ∀ k (hk : k < bs.length), Memory.read s.mem (s.pc + k) = some bs[k]) :
    ∃ rest, s.fetchBytes = bs ++ rest := by
  unfold State.fetchBytes
  rw [if_pos hb]
  exact Memory.readRun_of_read _ _ _ _ (by omega) h

/-- Where the program stands at its base, a fetch from the base on finds whatever bytes stand at the pc. -/
theorem State.fetchBytes_of_placedAt (s : State) (hp : Memory.placedAt s.mem s.programBase = true) (hb : s.programBase ≤ s.pc) :
    s.fetchBytes = Memory.readRun s.mem s.pc 8 := by
  unfold State.fetchBytes
  rw [if_pos hb]
  exact Memory.readRun_min_of_placedAt _ _ hp _ _ hb

end Sys2Proof.Machine
end

