-- ==== Sys2Proof/Laws/PerInstr.lean ====
section
/-! SUPPORT. Statements about the instruction as it is written, one lemma per constructor. -/

namespace Sys2Proof.Laws

/-- The opcode map has a row for the instruction's opcode, and that row builds this instruction from its operands
(30_encoding.md R78, R93). -/
def OpcodeRowOf.Statement (i : Instr) : Prop :=
  ∃ row, findRow i.opcode = some row ∧ row.opcode = i.opcode ∧ row.build i.form = i

theorem OpcodeRowOf.vCmpFF32 (form : Form) : OpcodeRowOf.Statement (.vCmpFF32 form) := ⟨⟨0x00, .vCmpFF32⟩, rfl, rfl, rfl⟩
theorem OpcodeRowOf.vCmpLtF32 (form : Form) : OpcodeRowOf.Statement (.vCmpLtF32 form) := ⟨⟨0x01, .vCmpLtF32⟩, rfl, rfl, rfl⟩
theorem OpcodeRowOf.vCmpEqF32 (form : Form) : OpcodeRowOf.Statement (.vCmpEqF32 form) := ⟨⟨0x02, .vCmpEqF32⟩, rfl, rfl, rfl⟩
theorem OpcodeRowOf.vCmpLeF32 (form : Form) : OpcodeRowOf.Statement (.vCmpLeF32 form) := ⟨⟨0x03, .vCmpLeF32⟩, rfl, rfl, rfl⟩
theorem OpcodeRowOf.vCmpGtF32 (form : Form) : OpcodeRowOf.Statement (.vCmpGtF32 form) := ⟨⟨0x04, .vCmpGtF32⟩, rfl, rfl, rfl⟩
theorem OpcodeRowOf.vCmpLgF32 (form : Form) : OpcodeRowOf.Statement (.vCmpLgF32 form) := ⟨⟨0x05, .vCmpLgF32⟩, rfl, rfl, rfl⟩
theorem OpcodeRowOf.vCmpGeF32 (form : Form) : OpcodeRowOf.Statement (.vCmpGeF32 form) := ⟨⟨0x06, .vCmpGeF32⟩, rfl, rfl, rfl⟩
theorem OpcodeRowOf.vCmpOF32 (form : Form) : OpcodeRowOf.Statement (.vCmpOF32 form) := ⟨⟨0x07, .vCmpOF32⟩, rfl, rfl, rfl⟩
theorem OpcodeRowOf.vCmpUF32 (form : Form) : OpcodeRowOf.Statement (.vCmpUF32 form) := ⟨⟨0x08, .vCmpUF32⟩, rfl, rfl, rfl⟩
theorem OpcodeRowOf.vCmpNgeF32 (form : Form) : OpcodeRowOf.Statement (.vCmpNgeF32 form) := ⟨⟨0x09, .vCmpNgeF32⟩, rfl, rfl, rfl⟩
theorem OpcodeRowOf.vCmpNlgF32 (form : Form) : OpcodeRowOf.Statement (.vCmpNlgF32 form) := ⟨⟨0x0A, .vCmpNlgF32⟩, rfl, rfl, rfl⟩
theorem OpcodeRowOf.vCmpNgtF32 (form : Form) : OpcodeRowOf.Statement (.vCmpNgtF32 form) := ⟨⟨0x0B, .vCmpNgtF32⟩, rfl, rfl, rfl⟩
theorem OpcodeRowOf.vCmpNleF32 (form : Form) : OpcodeRowOf.Statement (.vCmpNleF32 form) := ⟨⟨0x0C, .vCmpNleF32⟩, rfl, rfl, rfl⟩
theorem OpcodeRowOf.vCmpNeqF32 (form : Form) : OpcodeRowOf.Statement (.vCmpNeqF32 form) := ⟨⟨0x0D, .vCmpNeqF32⟩, rfl, rfl, rfl⟩
theorem OpcodeRowOf.vCmpNltF32 (form : Form) : OpcodeRowOf.Statement (.vCmpNltF32 form) := ⟨⟨0x0E, .vCmpNltF32⟩, rfl, rfl, rfl⟩
theorem OpcodeRowOf.vCmpTF32 (form : Form) : OpcodeRowOf.Statement (.vCmpTF32 form) := ⟨⟨0x0F, .vCmpTF32⟩, rfl, rfl, rfl⟩
theorem OpcodeRowOf.vCmpxFF32 (form : Form) : OpcodeRowOf.Statement (.vCmpxFF32 form) := ⟨⟨0x10, .vCmpxFF32⟩, rfl, rfl, rfl⟩
theorem OpcodeRowOf.vCmpxLtF32 (form : Form) : OpcodeRowOf.Statement (.vCmpxLtF32 form) := ⟨⟨0x11, .vCmpxLtF32⟩, rfl, rfl, rfl⟩
theorem OpcodeRowOf.vCmpxEqF32 (form : Form) : OpcodeRowOf.Statement (.vCmpxEqF32 form) := ⟨⟨0x12, .vCmpxEqF32⟩, rfl, rfl, rfl⟩
theorem OpcodeRowOf.vCmpxLeF32 (form : Form) : OpcodeRowOf.Statement (.vCmpxLeF32 form) := ⟨⟨0x13, .vCmpxLeF32⟩, rfl, rfl, rfl⟩
theorem OpcodeRowOf.vCmpxGtF32 (form : Form) : OpcodeRowOf.Statement (.vCmpxGtF32 form) := ⟨⟨0x14, .vCmpxGtF32⟩, rfl, rfl, rfl⟩
theorem OpcodeRowOf.vCmpxLgF32 (form : Form) : OpcodeRowOf.Statement (.vCmpxLgF32 form) := ⟨⟨0x15, .vCmpxLgF32⟩, rfl, rfl, rfl⟩
theorem OpcodeRowOf.vCmpxGeF32 (form : Form) : OpcodeRowOf.Statement (.vCmpxGeF32 form) := ⟨⟨0x16, .vCmpxGeF32⟩, rfl, rfl, rfl⟩
theorem OpcodeRowOf.vCmpxOF32 (form : Form) : OpcodeRowOf.Statement (.vCmpxOF32 form) := ⟨⟨0x17, .vCmpxOF32⟩, rfl, rfl, rfl⟩
theorem OpcodeRowOf.vCmpxUF32 (form : Form) : OpcodeRowOf.Statement (.vCmpxUF32 form) := ⟨⟨0x18, .vCmpxUF32⟩, rfl, rfl, rfl⟩
theorem OpcodeRowOf.vCmpxNgeF32 (form : Form) : OpcodeRowOf.Statement (.vCmpxNgeF32 form) := ⟨⟨0x19, .vCmpxNgeF32⟩, rfl, rfl, rfl⟩
theorem OpcodeRowOf.vCmpxNlgF32 (form : Form) : OpcodeRowOf.Statement (.vCmpxNlgF32 form) := ⟨⟨0x1A, .vCmpxNlgF32⟩, rfl, rfl, rfl⟩
theorem OpcodeRowOf.vCmpxNgtF32 (form : Form) : OpcodeRowOf.Statement (.vCmpxNgtF32 form) := ⟨⟨0x1B, .vCmpxNgtF32⟩, rfl, rfl, rfl⟩
theorem OpcodeRowOf.vCmpxNleF32 (form : Form) : OpcodeRowOf.Statement (.vCmpxNleF32 form) := ⟨⟨0x1C, .vCmpxNleF32⟩, rfl, rfl, rfl⟩
theorem OpcodeRowOf.vCmpxNeqF32 (form : Form) : OpcodeRowOf.Statement (.vCmpxNeqF32 form) := ⟨⟨0x1D, .vCmpxNeqF32⟩, rfl, rfl, rfl⟩
theorem OpcodeRowOf.vCmpxNltF32 (form : Form) : OpcodeRowOf.Statement (.vCmpxNltF32 form) := ⟨⟨0x1E, .vCmpxNltF32⟩, rfl, rfl, rfl⟩
theorem OpcodeRowOf.vCmpxTF32 (form : Form) : OpcodeRowOf.Statement (.vCmpxTF32 form) := ⟨⟨0x1F, .vCmpxTF32⟩, rfl, rfl, rfl⟩
theorem OpcodeRowOf.vCmpFF64 (form : Form) : OpcodeRowOf.Statement (.vCmpFF64 form) := ⟨⟨0x20, .vCmpFF64⟩, rfl, rfl, rfl⟩
theorem OpcodeRowOf.vCmpLtF64 (form : Form) : OpcodeRowOf.Statement (.vCmpLtF64 form) := ⟨⟨0x21, .vCmpLtF64⟩, rfl, rfl, rfl⟩
theorem OpcodeRowOf.vCmpEqF64 (form : Form) : OpcodeRowOf.Statement (.vCmpEqF64 form) := ⟨⟨0x22, .vCmpEqF64⟩, rfl, rfl, rfl⟩
theorem OpcodeRowOf.vCmpLeF64 (form : Form) : OpcodeRowOf.Statement (.vCmpLeF64 form) := ⟨⟨0x23, .vCmpLeF64⟩, rfl, rfl, rfl⟩
theorem OpcodeRowOf.vCmpGtF64 (form : Form) : OpcodeRowOf.Statement (.vCmpGtF64 form) := ⟨⟨0x24, .vCmpGtF64⟩, rfl, rfl, rfl⟩
theorem OpcodeRowOf.vCmpLgF64 (form : Form) : OpcodeRowOf.Statement (.vCmpLgF64 form) := ⟨⟨0x25, .vCmpLgF64⟩, rfl, rfl, rfl⟩
theorem OpcodeRowOf.vCmpGeF64 (form : Form) : OpcodeRowOf.Statement (.vCmpGeF64 form) := ⟨⟨0x26, .vCmpGeF64⟩, rfl, rfl, rfl⟩
theorem OpcodeRowOf.vCmpOF64 (form : Form) : OpcodeRowOf.Statement (.vCmpOF64 form) := ⟨⟨0x27, .vCmpOF64⟩, rfl, rfl, rfl⟩
theorem OpcodeRowOf.vCmpUF64 (form : Form) : OpcodeRowOf.Statement (.vCmpUF64 form) := ⟨⟨0x28, .vCmpUF64⟩, rfl, rfl, rfl⟩
theorem OpcodeRowOf.vCmpNgeF64 (form : Form) : OpcodeRowOf.Statement (.vCmpNgeF64 form) := ⟨⟨0x29, .vCmpNgeF64⟩, rfl, rfl, rfl⟩
theorem OpcodeRowOf.vCmpNlgF64 (form : Form) : OpcodeRowOf.Statement (.vCmpNlgF64 form) := ⟨⟨0x2A, .vCmpNlgF64⟩, rfl, rfl, rfl⟩
theorem OpcodeRowOf.vCmpNgtF64 (form : Form) : OpcodeRowOf.Statement (.vCmpNgtF64 form) := ⟨⟨0x2B, .vCmpNgtF64⟩, rfl, rfl, rfl⟩
theorem OpcodeRowOf.vCmpNleF64 (form : Form) : OpcodeRowOf.Statement (.vCmpNleF64 form) := ⟨⟨0x2C, .vCmpNleF64⟩, rfl, rfl, rfl⟩
theorem OpcodeRowOf.vCmpNeqF64 (form : Form) : OpcodeRowOf.Statement (.vCmpNeqF64 form) := ⟨⟨0x2D, .vCmpNeqF64⟩, rfl, rfl, rfl⟩
theorem OpcodeRowOf.vCmpNltF64 (form : Form) : OpcodeRowOf.Statement (.vCmpNltF64 form) := ⟨⟨0x2E, .vCmpNltF64⟩, rfl, rfl, rfl⟩
theorem OpcodeRowOf.vCmpTF64 (form : Form) : OpcodeRowOf.Statement (.vCmpTF64 form) := ⟨⟨0x2F, .vCmpTF64⟩, rfl, rfl, rfl⟩
theorem OpcodeRowOf.vCmpxFF64 (form : Form) : OpcodeRowOf.Statement (.vCmpxFF64 form) := ⟨⟨0x30, .vCmpxFF64⟩, rfl, rfl, rfl⟩
theorem OpcodeRowOf.vCmpxLtF64 (form : Form) : OpcodeRowOf.Statement (.vCmpxLtF64 form) := ⟨⟨0x31, .vCmpxLtF64⟩, rfl, rfl, rfl⟩
theorem OpcodeRowOf.vCmpxEqF64 (form : Form) : OpcodeRowOf.Statement (.vCmpxEqF64 form) := ⟨⟨0x32, .vCmpxEqF64⟩, rfl, rfl, rfl⟩
theorem OpcodeRowOf.vCmpxLeF64 (form : Form) : OpcodeRowOf.Statement (.vCmpxLeF64 form) := ⟨⟨0x33, .vCmpxLeF64⟩, rfl, rfl, rfl⟩
theorem OpcodeRowOf.vCmpxGtF64 (form : Form) : OpcodeRowOf.Statement (.vCmpxGtF64 form) := ⟨⟨0x34, .vCmpxGtF64⟩, rfl, rfl, rfl⟩
theorem OpcodeRowOf.vCmpxLgF64 (form : Form) : OpcodeRowOf.Statement (.vCmpxLgF64 form) := ⟨⟨0x35, .vCmpxLgF64⟩, rfl, rfl, rfl⟩
theorem OpcodeRowOf.vCmpxGeF64 (form : Form) : OpcodeRowOf.Statement (.vCmpxGeF64 form) := ⟨⟨0x36, .vCmpxGeF64⟩, rfl, rfl, rfl⟩
theorem OpcodeRowOf.vCmpxOF64 (form : Form) : OpcodeRowOf.Statement (.vCmpxOF64 form) := ⟨⟨0x37, .vCmpxOF64⟩, rfl, rfl, rfl⟩
theorem OpcodeRowOf.vCmpxUF64 (form : Form) : OpcodeRowOf.Statement (.vCmpxUF64 form) := ⟨⟨0x38, .vCmpxUF64⟩, rfl, rfl, rfl⟩
theorem OpcodeRowOf.vCmpxNgeF64 (form : Form) : OpcodeRowOf.Statement (.vCmpxNgeF64 form) := ⟨⟨0x39, .vCmpxNgeF64⟩, rfl, rfl, rfl⟩
theorem OpcodeRowOf.vCmpxNlgF64 (form : Form) : OpcodeRowOf.Statement (.vCmpxNlgF64 form) := ⟨⟨0x3A, .vCmpxNlgF64⟩, rfl, rfl, rfl⟩
theorem OpcodeRowOf.vCmpxNgtF64 (form : Form) : OpcodeRowOf.Statement (.vCmpxNgtF64 form) := ⟨⟨0x3B, .vCmpxNgtF64⟩, rfl, rfl, rfl⟩
theorem OpcodeRowOf.vCmpxNleF64 (form : Form) : OpcodeRowOf.Statement (.vCmpxNleF64 form) := ⟨⟨0x3C, .vCmpxNleF64⟩, rfl, rfl, rfl⟩
theorem OpcodeRowOf.vCmpxNeqF64 (form : Form) : OpcodeRowOf.Statement (.vCmpxNeqF64 form) := ⟨⟨0x3D, .vCmpxNeqF64⟩, rfl, rfl, rfl⟩
theorem OpcodeRowOf.vCmpxNltF64 (form : Form) : OpcodeRowOf.Statement (.vCmpxNltF64 form) := ⟨⟨0x3E, .vCmpxNltF64⟩, rfl, rfl, rfl⟩
theorem OpcodeRowOf.vCmpxTF64 (form : Form) : OpcodeRowOf.Statement (.vCmpxTF64 form) := ⟨⟨0x3F, .vCmpxTF64⟩, rfl, rfl, rfl⟩
theorem OpcodeRowOf.vCmpsFF32 (form : Form) : OpcodeRowOf.Statement (.vCmpsFF32 form) := ⟨⟨0x40, .vCmpsFF32⟩, rfl, rfl, rfl⟩
theorem OpcodeRowOf.vCmpsLtF32 (form : Form) : OpcodeRowOf.Statement (.vCmpsLtF32 form) := ⟨⟨0x41, .vCmpsLtF32⟩, rfl, rfl, rfl⟩
theorem OpcodeRowOf.vCmpsEqF32 (form : Form) : OpcodeRowOf.Statement (.vCmpsEqF32 form) := ⟨⟨0x42, .vCmpsEqF32⟩, rfl, rfl, rfl⟩
theorem OpcodeRowOf.vCmpsLeF32 (form : Form) : OpcodeRowOf.Statement (.vCmpsLeF32 form) := ⟨⟨0x43, .vCmpsLeF32⟩, rfl, rfl, rfl⟩
theorem OpcodeRowOf.vCmpsGtF32 (form : Form) : OpcodeRowOf.Statement (.vCmpsGtF32 form) := ⟨⟨0x44, .vCmpsGtF32⟩, rfl, rfl, rfl⟩
theorem OpcodeRowOf.vCmpsLgF32 (form : Form) : OpcodeRowOf.Statement (.vCmpsLgF32 form) := ⟨⟨0x45, .vCmpsLgF32⟩, rfl, rfl, rfl⟩
theorem OpcodeRowOf.vCmpsGeF32 (form : Form) : OpcodeRowOf.Statement (.vCmpsGeF32 form) := ⟨⟨0x46, .vCmpsGeF32⟩, rfl, rfl, rfl⟩
theorem OpcodeRowOf.vCmpsOF32 (form : Form) : OpcodeRowOf.Statement (.vCmpsOF32 form) := ⟨⟨0x47, .vCmpsOF32⟩, rfl, rfl, rfl⟩
theorem OpcodeRowOf.vCmpsUF32 (form : Form) : OpcodeRowOf.Statement (.vCmpsUF32 form) := ⟨⟨0x48, .vCmpsUF32⟩, rfl, rfl, rfl⟩
theorem OpcodeRowOf.vCmpsNgeF32 (form : Form) : OpcodeRowOf.Statement (.vCmpsNgeF32 form) := ⟨⟨0x49, .vCmpsNgeF32⟩, rfl, rfl, rfl⟩
theorem OpcodeRowOf.vCmpsNlgF32 (form : Form) : OpcodeRowOf.Statement (.vCmpsNlgF32 form) := ⟨⟨0x4A, .vCmpsNlgF32⟩, rfl, rfl, rfl⟩
theorem OpcodeRowOf.vCmpsNgtF32 (form : Form) : OpcodeRowOf.Statement (.vCmpsNgtF32 form) := ⟨⟨0x4B, .vCmpsNgtF32⟩, rfl, rfl, rfl⟩
theorem OpcodeRowOf.vCmpsNleF32 (form : Form) : OpcodeRowOf.Statement (.vCmpsNleF32 form) := ⟨⟨0x4C, .vCmpsNleF32⟩, rfl, rfl, rfl⟩
theorem OpcodeRowOf.vCmpsNeqF32 (form : Form) : OpcodeRowOf.Statement (.vCmpsNeqF32 form) := ⟨⟨0x4D, .vCmpsNeqF32⟩, rfl, rfl, rfl⟩
theorem OpcodeRowOf.vCmpsNltF32 (form : Form) : OpcodeRowOf.Statement (.vCmpsNltF32 form) := ⟨⟨0x4E, .vCmpsNltF32⟩, rfl, rfl, rfl⟩
theorem OpcodeRowOf.vCmpsTF32 (form : Form) : OpcodeRowOf.Statement (.vCmpsTF32 form) := ⟨⟨0x4F, .vCmpsTF32⟩, rfl, rfl, rfl⟩
theorem OpcodeRowOf.vCmpsxFF32 (form : Form) : OpcodeRowOf.Statement (.vCmpsxFF32 form) := ⟨⟨0x50, .vCmpsxFF32⟩, rfl, rfl, rfl⟩
theorem OpcodeRowOf.vCmpsxLtF32 (form : Form) : OpcodeRowOf.Statement (.vCmpsxLtF32 form) := ⟨⟨0x51, .vCmpsxLtF32⟩, rfl, rfl, rfl⟩
theorem OpcodeRowOf.vCmpsxEqF32 (form : Form) : OpcodeRowOf.Statement (.vCmpsxEqF32 form) := ⟨⟨0x52, .vCmpsxEqF32⟩, rfl, rfl, rfl⟩
theorem OpcodeRowOf.vCmpsxLeF32 (form : Form) : OpcodeRowOf.Statement (.vCmpsxLeF32 form) := ⟨⟨0x53, .vCmpsxLeF32⟩, rfl, rfl, rfl⟩
theorem OpcodeRowOf.vCmpsxGtF32 (form : Form) : OpcodeRowOf.Statement (.vCmpsxGtF32 form) := ⟨⟨0x54, .vCmpsxGtF32⟩, rfl, rfl, rfl⟩
theorem OpcodeRowOf.vCmpsxLgF32 (form : Form) : OpcodeRowOf.Statement (.vCmpsxLgF32 form) := ⟨⟨0x55, .vCmpsxLgF32⟩, rfl, rfl, rfl⟩
theorem OpcodeRowOf.vCmpsxGeF32 (form : Form) : OpcodeRowOf.Statement (.vCmpsxGeF32 form) := ⟨⟨0x56, .vCmpsxGeF32⟩, rfl, rfl, rfl⟩
theorem OpcodeRowOf.vCmpsxOF32 (form : Form) : OpcodeRowOf.Statement (.vCmpsxOF32 form) := ⟨⟨0x57, .vCmpsxOF32⟩, rfl, rfl, rfl⟩
theorem OpcodeRowOf.vCmpsxUF32 (form : Form) : OpcodeRowOf.Statement (.vCmpsxUF32 form) := ⟨⟨0x58, .vCmpsxUF32⟩, rfl, rfl, rfl⟩
theorem OpcodeRowOf.vCmpsxNgeF32 (form : Form) : OpcodeRowOf.Statement (.vCmpsxNgeF32 form) := ⟨⟨0x59, .vCmpsxNgeF32⟩, rfl, rfl, rfl⟩
theorem OpcodeRowOf.vCmpsxNlgF32 (form : Form) : OpcodeRowOf.Statement (.vCmpsxNlgF32 form) := ⟨⟨0x5A, .vCmpsxNlgF32⟩, rfl, rfl, rfl⟩
theorem OpcodeRowOf.vCmpsxNgtF32 (form : Form) : OpcodeRowOf.Statement (.vCmpsxNgtF32 form) := ⟨⟨0x5B, .vCmpsxNgtF32⟩, rfl, rfl, rfl⟩
theorem OpcodeRowOf.vCmpsxNleF32 (form : Form) : OpcodeRowOf.Statement (.vCmpsxNleF32 form) := ⟨⟨0x5C, .vCmpsxNleF32⟩, rfl, rfl, rfl⟩
theorem OpcodeRowOf.vCmpsxNeqF32 (form : Form) : OpcodeRowOf.Statement (.vCmpsxNeqF32 form) := ⟨⟨0x5D, .vCmpsxNeqF32⟩, rfl, rfl, rfl⟩
theorem OpcodeRowOf.vCmpsxNltF32 (form : Form) : OpcodeRowOf.Statement (.vCmpsxNltF32 form) := ⟨⟨0x5E, .vCmpsxNltF32⟩, rfl, rfl, rfl⟩
theorem OpcodeRowOf.vCmpsxTF32 (form : Form) : OpcodeRowOf.Statement (.vCmpsxTF32 form) := ⟨⟨0x5F, .vCmpsxTF32⟩, rfl, rfl, rfl⟩
theorem OpcodeRowOf.vCmpsFF64 (form : Form) : OpcodeRowOf.Statement (.vCmpsFF64 form) := ⟨⟨0x60, .vCmpsFF64⟩, rfl, rfl, rfl⟩
theorem OpcodeRowOf.vCmpsLtF64 (form : Form) : OpcodeRowOf.Statement (.vCmpsLtF64 form) := ⟨⟨0x61, .vCmpsLtF64⟩, rfl, rfl, rfl⟩
theorem OpcodeRowOf.vCmpsEqF64 (form : Form) : OpcodeRowOf.Statement (.vCmpsEqF64 form) := ⟨⟨0x62, .vCmpsEqF64⟩, rfl, rfl, rfl⟩
theorem OpcodeRowOf.vCmpsLeF64 (form : Form) : OpcodeRowOf.Statement (.vCmpsLeF64 form) := ⟨⟨0x63, .vCmpsLeF64⟩, rfl, rfl, rfl⟩
theorem OpcodeRowOf.vCmpsGtF64 (form : Form) : OpcodeRowOf.Statement (.vCmpsGtF64 form) := ⟨⟨0x64, .vCmpsGtF64⟩, rfl, rfl, rfl⟩
theorem OpcodeRowOf.vCmpsLgF64 (form : Form) : OpcodeRowOf.Statement (.vCmpsLgF64 form) := ⟨⟨0x65, .vCmpsLgF64⟩, rfl, rfl, rfl⟩
theorem OpcodeRowOf.vCmpsGeF64 (form : Form) : OpcodeRowOf.Statement (.vCmpsGeF64 form) := ⟨⟨0x66, .vCmpsGeF64⟩, rfl, rfl, rfl⟩
theorem OpcodeRowOf.vCmpsOF64 (form : Form) : OpcodeRowOf.Statement (.vCmpsOF64 form) := ⟨⟨0x67, .vCmpsOF64⟩, rfl, rfl, rfl⟩
theorem OpcodeRowOf.vCmpsUF64 (form : Form) : OpcodeRowOf.Statement (.vCmpsUF64 form) := ⟨⟨0x68, .vCmpsUF64⟩, rfl, rfl, rfl⟩
theorem OpcodeRowOf.vCmpsNgeF64 (form : Form) : OpcodeRowOf.Statement (.vCmpsNgeF64 form) := ⟨⟨0x69, .vCmpsNgeF64⟩, rfl, rfl, rfl⟩
theorem OpcodeRowOf.vCmpsNlgF64 (form : Form) : OpcodeRowOf.Statement (.vCmpsNlgF64 form) := ⟨⟨0x6A, .vCmpsNlgF64⟩, rfl, rfl, rfl⟩
theorem OpcodeRowOf.vCmpsNgtF64 (form : Form) : OpcodeRowOf.Statement (.vCmpsNgtF64 form) := ⟨⟨0x6B, .vCmpsNgtF64⟩, rfl, rfl, rfl⟩
theorem OpcodeRowOf.vCmpsNleF64 (form : Form) : OpcodeRowOf.Statement (.vCmpsNleF64 form) := ⟨⟨0x6C, .vCmpsNleF64⟩, rfl, rfl, rfl⟩
theorem OpcodeRowOf.vCmpsNeqF64 (form : Form) : OpcodeRowOf.Statement (.vCmpsNeqF64 form) := ⟨⟨0x6D, .vCmpsNeqF64⟩, rfl, rfl, rfl⟩
theorem OpcodeRowOf.vCmpsNltF64 (form : Form) : OpcodeRowOf.Statement (.vCmpsNltF64 form) := ⟨⟨0x6E, .vCmpsNltF64⟩, rfl, rfl, rfl⟩
theorem OpcodeRowOf.vCmpsTF64 (form : Form) : OpcodeRowOf.Statement (.vCmpsTF64 form) := ⟨⟨0x6F, .vCmpsTF64⟩, rfl, rfl, rfl⟩
theorem OpcodeRowOf.vCmpsxFF64 (form : Form) : OpcodeRowOf.Statement (.vCmpsxFF64 form) := ⟨⟨0x70, .vCmpsxFF64⟩, rfl, rfl, rfl⟩
theorem OpcodeRowOf.vCmpsxLtF64 (form : Form) : OpcodeRowOf.Statement (.vCmpsxLtF64 form) := ⟨⟨0x71, .vCmpsxLtF64⟩, rfl, rfl, rfl⟩
theorem OpcodeRowOf.vCmpsxEqF64 (form : Form) : OpcodeRowOf.Statement (.vCmpsxEqF64 form) := ⟨⟨0x72, .vCmpsxEqF64⟩, rfl, rfl, rfl⟩
theorem OpcodeRowOf.vCmpsxLeF64 (form : Form) : OpcodeRowOf.Statement (.vCmpsxLeF64 form) := ⟨⟨0x73, .vCmpsxLeF64⟩, rfl, rfl, rfl⟩
theorem OpcodeRowOf.vCmpsxGtF64 (form : Form) : OpcodeRowOf.Statement (.vCmpsxGtF64 form) := ⟨⟨0x74, .vCmpsxGtF64⟩, rfl, rfl, rfl⟩
theorem OpcodeRowOf.vCmpsxLgF64 (form : Form) : OpcodeRowOf.Statement (.vCmpsxLgF64 form) := ⟨⟨0x75, .vCmpsxLgF64⟩, rfl, rfl, rfl⟩
theorem OpcodeRowOf.vCmpsxGeF64 (form : Form) : OpcodeRowOf.Statement (.vCmpsxGeF64 form) := ⟨⟨0x76, .vCmpsxGeF64⟩, rfl, rfl, rfl⟩
theorem OpcodeRowOf.vCmpsxOF64 (form : Form) : OpcodeRowOf.Statement (.vCmpsxOF64 form) := ⟨⟨0x77, .vCmpsxOF64⟩, rfl, rfl, rfl⟩
theorem OpcodeRowOf.vCmpsxUF64 (form : Form) : OpcodeRowOf.Statement (.vCmpsxUF64 form) := ⟨⟨0x78, .vCmpsxUF64⟩, rfl, rfl, rfl⟩
theorem OpcodeRowOf.vCmpsxNgeF64 (form : Form) : OpcodeRowOf.Statement (.vCmpsxNgeF64 form) := ⟨⟨0x79, .vCmpsxNgeF64⟩, rfl, rfl, rfl⟩
theorem OpcodeRowOf.vCmpsxNlgF64 (form : Form) : OpcodeRowOf.Statement (.vCmpsxNlgF64 form) := ⟨⟨0x7A, .vCmpsxNlgF64⟩, rfl, rfl, rfl⟩
theorem OpcodeRowOf.vCmpsxNgtF64 (form : Form) : OpcodeRowOf.Statement (.vCmpsxNgtF64 form) := ⟨⟨0x7B, .vCmpsxNgtF64⟩, rfl, rfl, rfl⟩
theorem OpcodeRowOf.vCmpsxNleF64 (form : Form) : OpcodeRowOf.Statement (.vCmpsxNleF64 form) := ⟨⟨0x7C, .vCmpsxNleF64⟩, rfl, rfl, rfl⟩
theorem OpcodeRowOf.vCmpsxNeqF64 (form : Form) : OpcodeRowOf.Statement (.vCmpsxNeqF64 form) := ⟨⟨0x7D, .vCmpsxNeqF64⟩, rfl, rfl, rfl⟩
theorem OpcodeRowOf.vCmpsxNltF64 (form : Form) : OpcodeRowOf.Statement (.vCmpsxNltF64 form) := ⟨⟨0x7E, .vCmpsxNltF64⟩, rfl, rfl, rfl⟩
theorem OpcodeRowOf.vCmpsxTF64 (form : Form) : OpcodeRowOf.Statement (.vCmpsxTF64 form) := ⟨⟨0x7F, .vCmpsxTF64⟩, rfl, rfl, rfl⟩
theorem OpcodeRowOf.vCmpFI32 (form : Form) : OpcodeRowOf.Statement (.vCmpFI32 form) := ⟨⟨0x80, .vCmpFI32⟩, rfl, rfl, rfl⟩
theorem OpcodeRowOf.vCmpLtI32 (form : Form) : OpcodeRowOf.Statement (.vCmpLtI32 form) := ⟨⟨0x81, .vCmpLtI32⟩, rfl, rfl, rfl⟩
theorem OpcodeRowOf.vCmpEqI32 (form : Form) : OpcodeRowOf.Statement (.vCmpEqI32 form) := ⟨⟨0x82, .vCmpEqI32⟩, rfl, rfl, rfl⟩
theorem OpcodeRowOf.vCmpLeI32 (form : Form) : OpcodeRowOf.Statement (.vCmpLeI32 form) := ⟨⟨0x83, .vCmpLeI32⟩, rfl, rfl, rfl⟩
theorem OpcodeRowOf.vCmpGtI32 (form : Form) : OpcodeRowOf.Statement (.vCmpGtI32 form) := ⟨⟨0x84, .vCmpGtI32⟩, rfl, rfl, rfl⟩
theorem OpcodeRowOf.vCmpLgI32 (form : Form) : OpcodeRowOf.Statement (.vCmpLgI32 form) := ⟨⟨0x85, .vCmpLgI32⟩, rfl, rfl, rfl⟩
theorem OpcodeRowOf.vCmpGeI32 (form : Form) : OpcodeRowOf.Statement (.vCmpGeI32 form) := ⟨⟨0x86, .vCmpGeI32⟩, rfl, rfl, rfl⟩
theorem OpcodeRowOf.vCmpTI32 (form : Form) : OpcodeRowOf.Statement (.vCmpTI32 form) := ⟨⟨0x87, .vCmpTI32⟩, rfl, rfl, rfl⟩
theorem OpcodeRowOf.vCmpClassF32 (form : Form) : OpcodeRowOf.Statement (.vCmpClassF32 form) := ⟨⟨0x88, .vCmpClassF32⟩, rfl, rfl, rfl⟩
theorem OpcodeRowOf.vCmpxFI32 (form : Form) : OpcodeRowOf.Statement (.vCmpxFI32 form) := ⟨⟨0x90, .vCmpxFI32⟩, rfl, rfl, rfl⟩
theorem OpcodeRowOf.vCmpxLtI32 (form : Form) : OpcodeRowOf.Statement (.vCmpxLtI32 form) := ⟨⟨0x91, .vCmpxLtI32⟩, rfl, rfl, rfl⟩
theorem OpcodeRowOf.vCmpxEqI32 (form : Form) : OpcodeRowOf.Statement (.vCmpxEqI32 form) := ⟨⟨0x92, .vCmpxEqI32⟩, rfl, rfl, rfl⟩
theorem OpcodeRowOf.vCmpxLeI32 (form : Form) : OpcodeRowOf.Statement (.vCmpxLeI32 form) := ⟨⟨0x93, .vCmpxLeI32⟩, rfl, rfl, rfl⟩
theorem OpcodeRowOf.vCmpxGtI32 (form : Form) : OpcodeRowOf.Statement (.vCmpxGtI32 form) := ⟨⟨0x94, .vCmpxGtI32⟩, rfl, rfl, rfl⟩
theorem OpcodeRowOf.vCmpxLgI32 (form : Form) : OpcodeRowOf.Statement (.vCmpxLgI32 form) := ⟨⟨0x95, .vCmpxLgI32⟩, rfl, rfl, rfl⟩
theorem OpcodeRowOf.vCmpxGeI32 (form : Form) : OpcodeRowOf.Statement (.vCmpxGeI32 form) := ⟨⟨0x96, .vCmpxGeI32⟩, rfl, rfl, rfl⟩
theorem OpcodeRowOf.vCmpxTI32 (form : Form) : OpcodeRowOf.Statement (.vCmpxTI32 form) := ⟨⟨0x97, .vCmpxTI32⟩, rfl, rfl, rfl⟩
theorem OpcodeRowOf.vCmpxClassF32 (form : Form) : OpcodeRowOf.Statement (.vCmpxClassF32 form) := ⟨⟨0x98, .vCmpxClassF32⟩, rfl, rfl, rfl⟩
theorem OpcodeRowOf.vCmpFI64 (form : Form) : OpcodeRowOf.Statement (.vCmpFI64 form) := ⟨⟨0xA0, .vCmpFI64⟩, rfl, rfl, rfl⟩
theorem OpcodeRowOf.vCmpLtI64 (form : Form) : OpcodeRowOf.Statement (.vCmpLtI64 form) := ⟨⟨0xA1, .vCmpLtI64⟩, rfl, rfl, rfl⟩
theorem OpcodeRowOf.vCmpEqI64 (form : Form) : OpcodeRowOf.Statement (.vCmpEqI64 form) := ⟨⟨0xA2, .vCmpEqI64⟩, rfl, rfl, rfl⟩
theorem OpcodeRowOf.vCmpLeI64 (form : Form) : OpcodeRowOf.Statement (.vCmpLeI64 form) := ⟨⟨0xA3, .vCmpLeI64⟩, rfl, rfl, rfl⟩
theorem OpcodeRowOf.vCmpGtI64 (form : Form) : OpcodeRowOf.Statement (.vCmpGtI64 form) := ⟨⟨0xA4, .vCmpGtI64⟩, rfl, rfl, rfl⟩
theorem OpcodeRowOf.vCmpLgI64 (form : Form) : OpcodeRowOf.Statement (.vCmpLgI64 form) := ⟨⟨0xA5, .vCmpLgI64⟩, rfl, rfl, rfl⟩
theorem OpcodeRowOf.vCmpGeI64 (form : Form) : OpcodeRowOf.Statement (.vCmpGeI64 form) := ⟨⟨0xA6, .vCmpGeI64⟩, rfl, rfl, rfl⟩
theorem OpcodeRowOf.vCmpTI64 (form : Form) : OpcodeRowOf.Statement (.vCmpTI64 form) := ⟨⟨0xA7, .vCmpTI64⟩, rfl, rfl, rfl⟩
theorem OpcodeRowOf.vCmpClassF64 (form : Form) : OpcodeRowOf.Statement (.vCmpClassF64 form) := ⟨⟨0xA8, .vCmpClassF64⟩, rfl, rfl, rfl⟩
theorem OpcodeRowOf.vCmpxFI64 (form : Form) : OpcodeRowOf.Statement (.vCmpxFI64 form) := ⟨⟨0xB0, .vCmpxFI64⟩, rfl, rfl, rfl⟩
theorem OpcodeRowOf.vCmpxLtI64 (form : Form) : OpcodeRowOf.Statement (.vCmpxLtI64 form) := ⟨⟨0xB1, .vCmpxLtI64⟩, rfl, rfl, rfl⟩
theorem OpcodeRowOf.vCmpxEqI64 (form : Form) : OpcodeRowOf.Statement (.vCmpxEqI64 form) := ⟨⟨0xB2, .vCmpxEqI64⟩, rfl, rfl, rfl⟩
theorem OpcodeRowOf.vCmpxLeI64 (form : Form) : OpcodeRowOf.Statement (.vCmpxLeI64 form) := ⟨⟨0xB3, .vCmpxLeI64⟩, rfl, rfl, rfl⟩
theorem OpcodeRowOf.vCmpxGtI64 (form : Form) : OpcodeRowOf.Statement (.vCmpxGtI64 form) := ⟨⟨0xB4, .vCmpxGtI64⟩, rfl, rfl, rfl⟩
theorem OpcodeRowOf.vCmpxLgI64 (form : Form) : OpcodeRowOf.Statement (.vCmpxLgI64 form) := ⟨⟨0xB5, .vCmpxLgI64⟩, rfl, rfl, rfl⟩
theorem OpcodeRowOf.vCmpxGeI64 (form : Form) : OpcodeRowOf.Statement (.vCmpxGeI64 form) := ⟨⟨0xB6, .vCmpxGeI64⟩, rfl, rfl, rfl⟩
theorem OpcodeRowOf.vCmpxTI64 (form : Form) : OpcodeRowOf.Statement (.vCmpxTI64 form) := ⟨⟨0xB7, .vCmpxTI64⟩, rfl, rfl, rfl⟩
theorem OpcodeRowOf.vCmpxClassF64 (form : Form) : OpcodeRowOf.Statement (.vCmpxClassF64 form) := ⟨⟨0xB8, .vCmpxClassF64⟩, rfl, rfl, rfl⟩
theorem OpcodeRowOf.vCmpFU32 (form : Form) : OpcodeRowOf.Statement (.vCmpFU32 form) := ⟨⟨0xC0, .vCmpFU32⟩, rfl, rfl, rfl⟩
theorem OpcodeRowOf.vCmpLtU32 (form : Form) : OpcodeRowOf.Statement (.vCmpLtU32 form) := ⟨⟨0xC1, .vCmpLtU32⟩, rfl, rfl, rfl⟩
theorem OpcodeRowOf.vCmpEqU32 (form : Form) : OpcodeRowOf.Statement (.vCmpEqU32 form) := ⟨⟨0xC2, .vCmpEqU32⟩, rfl, rfl, rfl⟩
theorem OpcodeRowOf.vCmpLeU32 (form : Form) : OpcodeRowOf.Statement (.vCmpLeU32 form) := ⟨⟨0xC3, .vCmpLeU32⟩, rfl, rfl, rfl⟩
theorem OpcodeRowOf.vCmpGtU32 (form : Form) : OpcodeRowOf.Statement (.vCmpGtU32 form) := ⟨⟨0xC4, .vCmpGtU32⟩, rfl, rfl, rfl⟩
theorem OpcodeRowOf.vCmpLgU32 (form : Form) : OpcodeRowOf.Statement (.vCmpLgU32 form) := ⟨⟨0xC5, .vCmpLgU32⟩, rfl, rfl, rfl⟩
theorem OpcodeRowOf.vCmpGeU32 (form : Form) : OpcodeRowOf.Statement (.vCmpGeU32 form) := ⟨⟨0xC6, .vCmpGeU32⟩, rfl, rfl, rfl⟩
theorem OpcodeRowOf.vCmpTU32 (form : Form) : OpcodeRowOf.Statement (.vCmpTU32 form) := ⟨⟨0xC7, .vCmpTU32⟩, rfl, rfl, rfl⟩
theorem OpcodeRowOf.vCmpxFU32 (form : Form) : OpcodeRowOf.Statement (.vCmpxFU32 form) := ⟨⟨0xD0, .vCmpxFU32⟩, rfl, rfl, rfl⟩
theorem OpcodeRowOf.vCmpxLtU32 (form : Form) : OpcodeRowOf.Statement (.vCmpxLtU32 form) := ⟨⟨0xD1, .vCmpxLtU32⟩, rfl, rfl, rfl⟩
theorem OpcodeRowOf.vCmpxEqU32 (form : Form) : OpcodeRowOf.Statement (.vCmpxEqU32 form) := ⟨⟨0xD2, .vCmpxEqU32⟩, rfl, rfl, rfl⟩
theorem OpcodeRowOf.vCmpxLeU32 (form : Form) : OpcodeRowOf.Statement (.vCmpxLeU32 form) := ⟨⟨0xD3, .vCmpxLeU32⟩, rfl, rfl, rfl⟩
theorem OpcodeRowOf.vCmpxGtU32 (form : Form) : OpcodeRowOf.Statement (.vCmpxGtU32 form) := ⟨⟨0xD4, .vCmpxGtU32⟩, rfl, rfl, rfl⟩
theorem OpcodeRowOf.vCmpxLgU32 (form : Form) : OpcodeRowOf.Statement (.vCmpxLgU32 form) := ⟨⟨0xD5, .vCmpxLgU32⟩, rfl, rfl, rfl⟩
theorem OpcodeRowOf.vCmpxGeU32 (form : Form) : OpcodeRowOf.Statement (.vCmpxGeU32 form) := ⟨⟨0xD6, .vCmpxGeU32⟩, rfl, rfl, rfl⟩
theorem OpcodeRowOf.vCmpxTU32 (form : Form) : OpcodeRowOf.Statement (.vCmpxTU32 form) := ⟨⟨0xD7, .vCmpxTU32⟩, rfl, rfl, rfl⟩
theorem OpcodeRowOf.vCmpFU64 (form : Form) : OpcodeRowOf.Statement (.vCmpFU64 form) := ⟨⟨0xE0, .vCmpFU64⟩, rfl, rfl, rfl⟩
theorem OpcodeRowOf.vCmpLtU64 (form : Form) : OpcodeRowOf.Statement (.vCmpLtU64 form) := ⟨⟨0xE1, .vCmpLtU64⟩, rfl, rfl, rfl⟩
theorem OpcodeRowOf.vCmpEqU64 (form : Form) : OpcodeRowOf.Statement (.vCmpEqU64 form) := ⟨⟨0xE2, .vCmpEqU64⟩, rfl, rfl, rfl⟩
theorem OpcodeRowOf.vCmpLeU64 (form : Form) : OpcodeRowOf.Statement (.vCmpLeU64 form) := ⟨⟨0xE3, .vCmpLeU64⟩, rfl, rfl, rfl⟩
theorem OpcodeRowOf.vCmpGtU64 (form : Form) : OpcodeRowOf.Statement (.vCmpGtU64 form) := ⟨⟨0xE4, .vCmpGtU64⟩, rfl, rfl, rfl⟩
theorem OpcodeRowOf.vCmpLgU64 (form : Form) : OpcodeRowOf.Statement (.vCmpLgU64 form) := ⟨⟨0xE5, .vCmpLgU64⟩, rfl, rfl, rfl⟩
theorem OpcodeRowOf.vCmpGeU64 (form : Form) : OpcodeRowOf.Statement (.vCmpGeU64 form) := ⟨⟨0xE6, .vCmpGeU64⟩, rfl, rfl, rfl⟩
theorem OpcodeRowOf.vCmpTU64 (form : Form) : OpcodeRowOf.Statement (.vCmpTU64 form) := ⟨⟨0xE7, .vCmpTU64⟩, rfl, rfl, rfl⟩
theorem OpcodeRowOf.vCmpxFU64 (form : Form) : OpcodeRowOf.Statement (.vCmpxFU64 form) := ⟨⟨0xF0, .vCmpxFU64⟩, rfl, rfl, rfl⟩
theorem OpcodeRowOf.vCmpxLtU64 (form : Form) : OpcodeRowOf.Statement (.vCmpxLtU64 form) := ⟨⟨0xF1, .vCmpxLtU64⟩, rfl, rfl, rfl⟩
theorem OpcodeRowOf.vCmpxEqU64 (form : Form) : OpcodeRowOf.Statement (.vCmpxEqU64 form) := ⟨⟨0xF2, .vCmpxEqU64⟩, rfl, rfl, rfl⟩
theorem OpcodeRowOf.vCmpxLeU64 (form : Form) : OpcodeRowOf.Statement (.vCmpxLeU64 form) := ⟨⟨0xF3, .vCmpxLeU64⟩, rfl, rfl, rfl⟩
theorem OpcodeRowOf.vCmpxGtU64 (form : Form) : OpcodeRowOf.Statement (.vCmpxGtU64 form) := ⟨⟨0xF4, .vCmpxGtU64⟩, rfl, rfl, rfl⟩
theorem OpcodeRowOf.vCmpxLgU64 (form : Form) : OpcodeRowOf.Statement (.vCmpxLgU64 form) := ⟨⟨0xF5, .vCmpxLgU64⟩, rfl, rfl, rfl⟩
theorem OpcodeRowOf.vCmpxGeU64 (form : Form) : OpcodeRowOf.Statement (.vCmpxGeU64 form) := ⟨⟨0xF6, .vCmpxGeU64⟩, rfl, rfl, rfl⟩
theorem OpcodeRowOf.vCmpxTU64 (form : Form) : OpcodeRowOf.Statement (.vCmpxTU64 form) := ⟨⟨0xF7, .vCmpxTU64⟩, rfl, rfl, rfl⟩

end Sys2Proof.Laws
end

