-- ==== Sys2Proof/Laws/Run.lean ====
section
/-! SUPPORT. Runs step by step, and what operand fetch and the compare state do not depend on. -/

namespace Sys2Proof.Machine

/-- One more step of any machine's run. -/
theorem run_succ (M : Host.Core) (k : Nat) (s : M.State) :
    M.run (k + 1) s = match M.step s with
      | .next u => M.run k u
      | .fault r => .fault r
      | .refused r => .refused r := rfl

/-- No step reaches the state itself. -/
theorem reaches_zero {s t : State} : Reaches 0 s t ↔ t = s := by
  change Host.Outcome.next s = Host.Outcome.next t ↔ t = s
  rw [Host.Outcome.next.injEq, eq_comm]

/-- `k + 1` steps are one step and `k` more. -/
theorem reaches_succ {k : Nat} {s t : State} : Reaches (k + 1) s t ↔ ∃ u, step s = .next u ∧ Reaches k u t := by
  have e : Host.Core.run Sys2Proof.core (k + 1) s = _ := run_succ Sys2Proof.core k s
  have e' : Sys2Proof.core.step s = step s := rfl
  rw [e'] at e
  unfold Reaches
  rw [e]
  cases step s with
  | next u => simp
  | fault => simp
  | refused => simp

/-- `k + 1` steps are `k` and one more. -/
theorem reaches_succ_last {k : Nat} : ∀ {s t : State}, Reaches (k + 1) s t ↔ ∃ u, Reaches k s u ∧ step u = .next t := by
  induction k with
  | zero =>
    intro s t
    rw [reaches_succ]
    simp only [reaches_zero]
    constructor
    · rintro ⟨u, hu, rfl⟩; exact ⟨s, rfl, hu⟩
    · rintro ⟨u, rfl, hu⟩; exact ⟨t, hu, rfl⟩
  | succ k ih =>
    intro s t
    rw [reaches_succ]
    constructor
    · rintro ⟨v, hv, h⟩
      obtain ⟨u, hu, ht⟩ := ih.1 h
      exact ⟨u, reaches_succ.2 ⟨v, hv, hu⟩, ht⟩
    · rintro ⟨u, hu, ht⟩
      obtain ⟨v, hv, h⟩ := reaches_succ.1 hu
      exact ⟨v, hv, ih.2 ⟨u, h, ht⟩⟩

/-- Operands do not depend on the configuration. -/
theorem fetch_config (w : Width) (s : State) (cfg : Config) (src : Src) (L : Nat) :
    fetch w { s with config := cfg } src L = fetch w s src L := by
  cases w <;> cases src <;> rfl

/-- An operand depends on the VGPR file only through the lane it is fetched in (10_state.md R24). -/
theorem fetch_vgprs (w : Width) (s : State) (other : Vector (Vector Word 64) 256) (has : Vector LaneMask 256) (src : Src) (L : Nat)
    (h : ∀ n, State.vgpr { s with vgprs := other, vgprHas := has } n L = s.vgpr n L) :
    fetch w { s with vgprs := other, vgprHas := has } src L = fetch w s src L := by
  cases w
  · cases src
    case vgpr n => exact h n
    all_goals rfl
  · cases src
    case vgpr n =>
      change pairValue _ _ = pairValue _ _
      rw [h, h]
    all_goals rfl

/-- Whether a source holds a value does not depend on the configuration. -/
theorem holds_config (w : Width) (s : State) (cfg : Config) (src : Src) (L : Nat) :
    holds w { s with config := cfg } src L = holds w s src L := by
  cases w <;> cases src <;> rfl

/-- Whether a source holds a value depends on the VGPR file only through the lane it is fetched in (10_state.md R31). -/
theorem holds_vgprs (w : Width) (s : State) (other : Vector (Vector Word 64) 256) (has : Vector LaneMask 256) (src : Src) (L : Nat)
    (h : ∀ n, State.vgprHolds { s with vgprs := other, vgprHas := has } n L = s.vgprHolds n L) :
    holds w { s with vgprs := other, vgprHas := has } src L = holds w s src L := by
  cases w
  · cases src
    case vgpr n => exact h n
    all_goals rfl
  · cases src
    case vgpr n =>
      change (_ && _) = (_ && _)
      rw [h, h]
    all_goals rfl

/-- The compare state passes a change of the VGPR file through. -/
theorem compareState_with_vgprs (s : State) (other : Vector (Vector Word 64) 256) (has : Vector LaneMask 256) (form : Form)
    (x : Bool) (d : LaneMask) :
    compareState { s with vgprs := other, vgprHas := has } form x d =
      { compareState s form x d with vgprs := other, vgprHas := has } := by
  unfold compareState State.writeDest
  cases x <;> cases form.dest <;> rfl

/-- The compare state passes a change of the configuration through. -/
theorem compareState_with_config (s : State) (cfg : Config) (form : Form) (x : Bool) (d : LaneMask) :
    compareState { s with config := cfg } form x d = { compareState s form x d with config := cfg } := by
  unfold compareState State.writeDest
  cases x <;> cases form.dest <;> rfl

/-- The destination pair of a well-formed instruction is even and inside the file (30_encoding.md R90). -/
theorem dest_pair_of_wellFormed {i : Instr} {cfg : Config} {n : SgprNum} (h : i.WellFormed cfg) (hd : i.form.dest = .pair n) :
    n.val % 2 = 0 ∧ n.val + 1 < 104 := by
  unfold Instr.WellFormed Instr.check at h
  cases hf : i.form with
  | vopc a b => rw [hf] at hd; cases hd
  | vop3 d m a b =>
    rw [hf] at hd h
    simp only [Form.dest] at hd
    subst hd
    have h2 : admitSdst cfg (.pair n) = none := by
      unfold admitForm at h
      simp only [Option.orElse_eq_orElse] at h
      revert h
      cases admitSrc cfg (opcodeWidth i.opcode) false false a <;>
        cases admitSrc cfg (opcodeWidth i.opcode) false (opcodeHasMask64 i.opcode) b <;>
        cases admitSdst cfg (.pair n) <;> simp
    simp only [admitSdst] at h2
    have : numSgpr cfg.version ≤ 104 := by cases cfg.version <;> decide
    by_cases hp : pairStart cfg n.val = true
    · simp [pairStart] at hp; omega
    · rw [if_neg hp] at h2; cases h2

end Sys2Proof.Machine
end

