-- ==== Sys2Proof/Tests/Slice0.lean ====
section
/-! SUPPORT. Tests: ill-formed terms, words written out from the encoding tables of 30_encoding.md, the vectors of
95_test_vectors.md, and for every statement with hypotheses a state and operands that meet them. -/

namespace Sys2Proof.Tests

open Sys2Proof.Machine

-- One kernel evaluation at a time: in parallel they ask for more thread stacks than the memory limit allows.
set_option Elab.async false

/-- A register file of listed registers with listed lanes; everything else 0. -/
def lanesOf (regs : List (Nat × List (Nat × Word))) : Vector (Vector Word 64) 256 :=
  Vector.ofFn fun n => Vector.ofFn fun L => (((regs.lookup n.val).getD []).lookup L.val).getD 0#32

/-- The state after reset with an EXEC and VGPRs of a test. -/
def testState (execMask : LaneMask) (regs : List (Nat × List (Nat × Word))) : State :=
  { State.reset with execMask := execMask, vgprs := lanesOf regs }

/-- Which lanes of which VGPRs a list of registers names. -/
def lanesListed (regs : List (Nat × List (Nat × Word))) : Vector LaneMask 256 :=
  Vector.ofFn fun n => laneMask fun L => (((regs.lookup n.val).getD []).lookup L).isSome

/-- A launch that gives a value to EXEC and the listed lanes of VGPRs, and to no other register (10_state.md R31). -/
def sparseState (execMask : LaneMask) (regs : List (Nat × List (Nat × Word))) : State :=
  { testState execMask regs with
    sgprHas := Vector.replicate 104 false
    vgprHas := lanesListed regs
    vccLoHas := false
    vccHiHas := false
    m0Has := false }

/-- The outcome is the fault of a register with no value. -/
def isUnwritten (o : Outcome) : Bool :=
  match o with
  | .fault .unwrittenRegister => true
  | _ => false

/-- The state a step of one loaded instruction reaches, or leaves in its fault. -/
def after (s : State) (nbits w : Nat) : Option State :=
  match step (s.withFetchWord nbits w) with
  | .next t => some t
  | .fault (.signal t) => some t
  | .fault .unwrittenRegister => none
  | .refused _ => none

/-- VCC, EXEC and SIGNAL after one loaded instruction. -/
def masksAfter (s : State) (nbits w : Nat) : Option (Nat × Nat × Bool) :=
  (after s nbits w).map fun t => (t.vcc.toNat, t.execMask.toNat, t.signal)

/-- An SGPR pair, SIGNAL and the pc after one loaded instruction. -/
def pairAfter (s : State) (n nbits w : Nat) : Option (Nat × Nat × Bool × Nat) :=
  (after s nbits w).map fun t => ((t.sgpr n).toNat, (t.sgpr (n + 1)).toNat, t.signal, t.pc)

/-- The label by which the decoder refuses the bytes of some words. -/
def labelOf (cfg : Config) (words : List Word) : Option Reject :=
  match decode cfg (words.flatMap bytesOfWord) with
  | .ok _ => none
  | .error why => some why

/-- GCN 1.2 under the empty map. -/
def gcn12 : Config := { Config.default with version := .v1_2 }

/-! Ill-formed terms: one for each check of 30_encoding.md R81 to R92. -/

theorem test_wellformed_refuses_sgpr_outside_file : Instr.check gcn12 (.vCmpLtU32 (.vopc (.sgpr 102) 0)) = some .operandCodeRefused := by decide

theorem test_wellformed_refuses_inline_int_above : Instr.check .default (.vCmpLtI32 (.vopc (.inlineInt 65) 0)) = some .operandCodeRefused := by decide

theorem test_wellformed_refuses_inline_int_below : Instr.check .default (.vCmpLtI32 (.vopc (.inlineInt (-17)) 0)) = some .operandCodeRefused := by decide

theorem test_wellformed_refuses_sgpr_pair_odd : Instr.check .default (.vCmpLtI64 (.vopc (.sgpr 3) 0)) = some .sgprPairMisaligned := by decide

theorem test_wellformed_refuses_vcc_hi_64 : Instr.check .default (.vCmpLtI64 (.vopc .vccHi 0)) = some .operandCodeRefused64 := by decide

theorem test_wellformed_refuses_m0_64 : Instr.check .default (.vCmpLtF64 (.vopc .m0 0)) = some .operandCodeRefused64 := by decide

theorem test_wellformed_refuses_exec_hi_64 : Instr.check .default (.vCmpLtU64 (.vopc .execHi 0)) = some .operandCodeRefused64 := by decide

theorem test_wellformed_refuses_inline_int_64 : Instr.check .default (.vCmpLtI64 (.vopc (.inlineInt 1) 0)) = some .inline64 := by decide

theorem test_wellformed_refuses_inline_float_64 : Instr.check .default (.vCmpLtF64 (.vopc (.inlineFloat .one) 0)) = some .inline64 := by decide

theorem test_wellformed_refuses_class_mask_float_64 : Instr.check .default (.vCmpClassF64 (.vop3 .vcc .off (.vgpr 0) (.inlineFloat .one))) = some .inline64 := by decide

theorem test_wellformed_refuses_literal_64 : Instr.check .default (.vCmpLtF64 (.vopc (.literal 0#32) 0)) = some .literalNotAdmitted := by decide

theorem test_wellformed_refuses_literal_vop3 : Instr.check .default (.vCmpLtF32 (.vop3 .vcc .off (.literal 0#32) (.vgpr 0))) = some .literalNotAdmitted := by decide

theorem test_wellformed_refuses_vgpr_pair_src0 : Instr.check .default (.vCmpLtI64 (.vopc (.vgpr 255) 0)) = some .vgprPairOutOfRange := by decide

theorem test_wellformed_refuses_vgpr_pair_vsrc1 : Instr.check .default (.vCmpLtI64 (.vopc (.vgpr 0) 255)) = some .vgprPairOutOfRange := by decide

theorem test_wellformed_refuses_dest_odd : Instr.check .default (.vCmpLtF32 (.vop3 (.pair 5) .off (.vgpr 0) (.vgpr 1))) = some .destinationRefused := by decide

theorem test_wellformed_refuses_dest_outside_file : Instr.check gcn12 (.vCmpLtF32 (.vop3 (.pair 102) .off (.vgpr 0) (.vgpr 1))) = some .destinationRefused := by decide

theorem test_wellformed_refuses_two_scalar_registers : Instr.check .default (.vCmpLtU32 (.vop3 (.pair 4) .off (.sgpr 2) .vccLo)) = some .twoScalarRegisters := by decide

/-- What R88 excepts and the boundary values R81 to R91 admit. -/
theorem test_wellformed_admits_class_mask : Instr.WellFormed .default (.vCmpClassF64 (.vop3 (.pair 102) .off (.vgpr 254) (.inlineInt (-16)))) := by decide

theorem test_wellformed_admits_same_scalar : Instr.WellFormed .default (.vCmpEqI32 (.vop3 .vcc .off (.sgpr 103) (.sgpr 103))) := by decide

/-! Every constructor from its VOPC word: `match` of its row (30_encoding.md R71), SRC0 = 256 (v0), VSRC1 = 1 or 2. -/

theorem test_decode_vopc_group_0 : [0x7C000300, 0x7C020300, 0x7C040300, 0x7C060300, 0x7C080300, 0x7C0A0300, 0x7C0C0300, 0x7C0E0300,
     0x7C100300, 0x7C120300, 0x7C140300, 0x7C160300, 0x7C180300, 0x7C1A0300, 0x7C1C0300, 0x7C1E0300].map (decodeTableWord 32) =
    ([.vCmpFF32, .vCmpLtF32, .vCmpEqF32, .vCmpLeF32, .vCmpGtF32, .vCmpLgF32,
     .vCmpGeF32, .vCmpOF32, .vCmpUF32, .vCmpNgeF32, .vCmpNlgF32, .vCmpNgtF32,
     .vCmpNleF32, .vCmpNeqF32, .vCmpNltF32, .vCmpTF32] : List (Form → Instr)).map fun mk =>
      some (mk (.vopc (.vgpr 0) 1)) := by decide +kernel

theorem test_decode_vopc_group_1 : [0x7C200300, 0x7C220300, 0x7C240300, 0x7C260300, 0x7C280300, 0x7C2A0300, 0x7C2C0300, 0x7C2E0300,
     0x7C300300, 0x7C320300, 0x7C340300, 0x7C360300, 0x7C380300, 0x7C3A0300, 0x7C3C0300, 0x7C3E0300].map (decodeTableWord 32) =
    ([.vCmpxFF32, .vCmpxLtF32, .vCmpxEqF32, .vCmpxLeF32, .vCmpxGtF32, .vCmpxLgF32,
     .vCmpxGeF32, .vCmpxOF32, .vCmpxUF32, .vCmpxNgeF32, .vCmpxNlgF32, .vCmpxNgtF32,
     .vCmpxNleF32, .vCmpxNeqF32, .vCmpxNltF32, .vCmpxTF32] : List (Form → Instr)).map fun mk =>
      some (mk (.vopc (.vgpr 0) 1)) := by decide +kernel

theorem test_decode_vopc_group_2 : [0x7C400500, 0x7C420500, 0x7C440500, 0x7C460500, 0x7C480500, 0x7C4A0500, 0x7C4C0500, 0x7C4E0500,
     0x7C500500, 0x7C520500, 0x7C540500, 0x7C560500, 0x7C580500, 0x7C5A0500, 0x7C5C0500, 0x7C5E0500].map (decodeTableWord 32) =
    ([.vCmpFF64, .vCmpLtF64, .vCmpEqF64, .vCmpLeF64, .vCmpGtF64, .vCmpLgF64,
     .vCmpGeF64, .vCmpOF64, .vCmpUF64, .vCmpNgeF64, .vCmpNlgF64, .vCmpNgtF64,
     .vCmpNleF64, .vCmpNeqF64, .vCmpNltF64, .vCmpTF64] : List (Form → Instr)).map fun mk =>
      some (mk (.vopc (.vgpr 0) 2)) := by decide +kernel

theorem test_decode_vopc_group_3 : [0x7C600500, 0x7C620500, 0x7C640500, 0x7C660500, 0x7C680500, 0x7C6A0500, 0x7C6C0500, 0x7C6E0500,
     0x7C700500, 0x7C720500, 0x7C740500, 0x7C760500, 0x7C780500, 0x7C7A0500, 0x7C7C0500, 0x7C7E0500].map (decodeTableWord 32) =
    ([.vCmpxFF64, .vCmpxLtF64, .vCmpxEqF64, .vCmpxLeF64, .vCmpxGtF64, .vCmpxLgF64,
     .vCmpxGeF64, .vCmpxOF64, .vCmpxUF64, .vCmpxNgeF64, .vCmpxNlgF64, .vCmpxNgtF64,
     .vCmpxNleF64, .vCmpxNeqF64, .vCmpxNltF64, .vCmpxTF64] : List (Form → Instr)).map fun mk =>
      some (mk (.vopc (.vgpr 0) 2)) := by decide +kernel

theorem test_decode_vopc_group_4 : [0x7C800300, 0x7C820300, 0x7C840300, 0x7C860300, 0x7C880300, 0x7C8A0300, 0x7C8C0300, 0x7C8E0300,
     0x7C900300, 0x7C920300, 0x7C940300, 0x7C960300, 0x7C980300, 0x7C9A0300, 0x7C9C0300, 0x7C9E0300].map (decodeTableWord 32) =
    ([.vCmpsFF32, .vCmpsLtF32, .vCmpsEqF32, .vCmpsLeF32, .vCmpsGtF32, .vCmpsLgF32,
     .vCmpsGeF32, .vCmpsOF32, .vCmpsUF32, .vCmpsNgeF32, .vCmpsNlgF32, .vCmpsNgtF32,
     .vCmpsNleF32, .vCmpsNeqF32, .vCmpsNltF32, .vCmpsTF32] : List (Form → Instr)).map fun mk =>
      some (mk (.vopc (.vgpr 0) 1)) := by decide +kernel

theorem test_decode_vopc_group_5 : [0x7CA00300, 0x7CA20300, 0x7CA40300, 0x7CA60300, 0x7CA80300, 0x7CAA0300, 0x7CAC0300, 0x7CAE0300,
     0x7CB00300, 0x7CB20300, 0x7CB40300, 0x7CB60300, 0x7CB80300, 0x7CBA0300, 0x7CBC0300, 0x7CBE0300].map (decodeTableWord 32) =
    ([.vCmpsxFF32, .vCmpsxLtF32, .vCmpsxEqF32, .vCmpsxLeF32, .vCmpsxGtF32, .vCmpsxLgF32,
     .vCmpsxGeF32, .vCmpsxOF32, .vCmpsxUF32, .vCmpsxNgeF32, .vCmpsxNlgF32, .vCmpsxNgtF32,
     .vCmpsxNleF32, .vCmpsxNeqF32, .vCmpsxNltF32, .vCmpsxTF32] : List (Form → Instr)).map fun mk =>
      some (mk (.vopc (.vgpr 0) 1)) := by decide +kernel

theorem test_decode_vopc_group_6 : [0x7CC00500, 0x7CC20500, 0x7CC40500, 0x7CC60500, 0x7CC80500, 0x7CCA0500, 0x7CCC0500, 0x7CCE0500,
     0x7CD00500, 0x7CD20500, 0x7CD40500, 0x7CD60500, 0x7CD80500, 0x7CDA0500, 0x7CDC0500, 0x7CDE0500].map (decodeTableWord 32) =
    ([.vCmpsFF64, .vCmpsLtF64, .vCmpsEqF64, .vCmpsLeF64, .vCmpsGtF64, .vCmpsLgF64,
     .vCmpsGeF64, .vCmpsOF64, .vCmpsUF64, .vCmpsNgeF64, .vCmpsNlgF64, .vCmpsNgtF64,
     .vCmpsNleF64, .vCmpsNeqF64, .vCmpsNltF64, .vCmpsTF64] : List (Form → Instr)).map fun mk =>
      some (mk (.vopc (.vgpr 0) 2)) := by decide +kernel

theorem test_decode_vopc_group_7 : [0x7CE00500, 0x7CE20500, 0x7CE40500, 0x7CE60500, 0x7CE80500, 0x7CEA0500, 0x7CEC0500, 0x7CEE0500,
     0x7CF00500, 0x7CF20500, 0x7CF40500, 0x7CF60500, 0x7CF80500, 0x7CFA0500, 0x7CFC0500, 0x7CFE0500].map (decodeTableWord 32) =
    ([.vCmpsxFF64, .vCmpsxLtF64, .vCmpsxEqF64, .vCmpsxLeF64, .vCmpsxGtF64, .vCmpsxLgF64,
     .vCmpsxGeF64, .vCmpsxOF64, .vCmpsxUF64, .vCmpsxNgeF64, .vCmpsxNlgF64, .vCmpsxNgtF64,
     .vCmpsxNleF64, .vCmpsxNeqF64, .vCmpsxNltF64, .vCmpsxTF64] : List (Form → Instr)).map fun mk =>
      some (mk (.vopc (.vgpr 0) 2)) := by decide +kernel

theorem test_decode_vopc_group_8 : [0x7D000300, 0x7D020300, 0x7D040300, 0x7D060300, 0x7D080300, 0x7D0A0300, 0x7D0C0300, 0x7D0E0300,
     0x7D100300].map (decodeTableWord 32) =
    ([.vCmpFI32, .vCmpLtI32, .vCmpEqI32, .vCmpLeI32, .vCmpGtI32, .vCmpLgI32,
     .vCmpGeI32, .vCmpTI32, .vCmpClassF32] : List (Form → Instr)).map fun mk =>
      some (mk (.vopc (.vgpr 0) 1)) := by decide +kernel

theorem test_decode_vopc_group_9 : [0x7D200300, 0x7D220300, 0x7D240300, 0x7D260300, 0x7D280300, 0x7D2A0300, 0x7D2C0300, 0x7D2E0300,
     0x7D300300].map (decodeTableWord 32) =
    ([.vCmpxFI32, .vCmpxLtI32, .vCmpxEqI32, .vCmpxLeI32, .vCmpxGtI32, .vCmpxLgI32,
     .vCmpxGeI32, .vCmpxTI32, .vCmpxClassF32] : List (Form → Instr)).map fun mk =>
      some (mk (.vopc (.vgpr 0) 1)) := by decide +kernel

theorem test_decode_vopc_group_A : [0x7D400500, 0x7D420500, 0x7D440500, 0x7D460500, 0x7D480500, 0x7D4A0500, 0x7D4C0500, 0x7D4E0500,
     0x7D500500].map (decodeTableWord 32) =
    ([.vCmpFI64, .vCmpLtI64, .vCmpEqI64, .vCmpLeI64, .vCmpGtI64, .vCmpLgI64,
     .vCmpGeI64, .vCmpTI64, .vCmpClassF64] : List (Form → Instr)).map fun mk =>
      some (mk (.vopc (.vgpr 0) 2)) := by decide +kernel

theorem test_decode_vopc_group_B : [0x7D600500, 0x7D620500, 0x7D640500, 0x7D660500, 0x7D680500, 0x7D6A0500, 0x7D6C0500, 0x7D6E0500,
     0x7D700500].map (decodeTableWord 32) =
    ([.vCmpxFI64, .vCmpxLtI64, .vCmpxEqI64, .vCmpxLeI64, .vCmpxGtI64, .vCmpxLgI64,
     .vCmpxGeI64, .vCmpxTI64, .vCmpxClassF64] : List (Form → Instr)).map fun mk =>
      some (mk (.vopc (.vgpr 0) 2)) := by decide +kernel

theorem test_decode_vopc_group_C : [0x7D800300, 0x7D820300, 0x7D840300, 0x7D860300, 0x7D880300, 0x7D8A0300, 0x7D8C0300, 0x7D8E0300].map (decodeTableWord 32) =
    ([.vCmpFU32, .vCmpLtU32, .vCmpEqU32, .vCmpLeU32, .vCmpGtU32, .vCmpLgU32,
     .vCmpGeU32, .vCmpTU32] : List (Form → Instr)).map fun mk =>
      some (mk (.vopc (.vgpr 0) 1)) := by decide +kernel

theorem test_decode_vopc_group_D : [0x7DA00300, 0x7DA20300, 0x7DA40300, 0x7DA60300, 0x7DA80300, 0x7DAA0300, 0x7DAC0300, 0x7DAE0300].map (decodeTableWord 32) =
    ([.vCmpxFU32, .vCmpxLtU32, .vCmpxEqU32, .vCmpxLeU32, .vCmpxGtU32, .vCmpxLgU32,
     .vCmpxGeU32, .vCmpxTU32] : List (Form → Instr)).map fun mk =>
      some (mk (.vopc (.vgpr 0) 1)) := by decide +kernel

theorem test_decode_vopc_group_E : [0x7DC00500, 0x7DC20500, 0x7DC40500, 0x7DC60500, 0x7DC80500, 0x7DCA0500, 0x7DCC0500, 0x7DCE0500].map (decodeTableWord 32) =
    ([.vCmpFU64, .vCmpLtU64, .vCmpEqU64, .vCmpLeU64, .vCmpGtU64, .vCmpLgU64,
     .vCmpGeU64, .vCmpTU64] : List (Form → Instr)).map fun mk =>
      some (mk (.vopc (.vgpr 0) 2)) := by decide +kernel

theorem test_decode_vopc_group_F : [0x7DE00500, 0x7DE20500, 0x7DE40500, 0x7DE60500, 0x7DE80500, 0x7DEA0500, 0x7DEC0500, 0x7DEE0500].map (decodeTableWord 32) =
    ([.vCmpxFU64, .vCmpxLtU64, .vCmpxEqU64, .vCmpxLeU64, .vCmpxGtU64, .vCmpxLgU64,
     .vCmpxGeU64, .vCmpxTU64] : List (Form → Instr)).map fun mk =>
      some (mk (.vopc (.vgpr 0) 2)) := by decide +kernel

/-! Every constructor from its VOP3A words: `match` of its row (R75), SDST = 4, SRC0 = 256, SRC1 = 257 or 258. -/

theorem test_decode_vop3_group_0 : [0x00020300D0000004, 0x00020300D0020004, 0x00020300D0040004, 0x00020300D0060004, 0x00020300D0080004,
     0x00020300D00A0004, 0x00020300D00C0004, 0x00020300D00E0004, 0x00020300D0100004, 0x00020300D0120004,
     0x00020300D0140004, 0x00020300D0160004, 0x00020300D0180004, 0x00020300D01A0004, 0x00020300D01C0004,
     0x00020300D01E0004].map (decodeTableWord 64) =
    ([.vCmpFF32, .vCmpLtF32, .vCmpEqF32, .vCmpLeF32, .vCmpGtF32, .vCmpLgF32,
     .vCmpGeF32, .vCmpOF32, .vCmpUF32, .vCmpNgeF32, .vCmpNlgF32, .vCmpNgtF32,
     .vCmpNleF32, .vCmpNeqF32, .vCmpNltF32, .vCmpTF32] : List (Form → Instr)).map fun mk =>
      some (mk (.vop3 (.pair 4) .off (.vgpr 0) (.vgpr 1))) := by decide +kernel

theorem test_decode_vop3_group_1 : [0x00020300D0200004, 0x00020300D0220004, 0x00020300D0240004, 0x00020300D0260004, 0x00020300D0280004,
     0x00020300D02A0004, 0x00020300D02C0004, 0x00020300D02E0004, 0x00020300D0300004, 0x00020300D0320004,
     0x00020300D0340004, 0x00020300D0360004, 0x00020300D0380004, 0x00020300D03A0004, 0x00020300D03C0004,
     0x00020300D03E0004].map (decodeTableWord 64) =
    ([.vCmpxFF32, .vCmpxLtF32, .vCmpxEqF32, .vCmpxLeF32, .vCmpxGtF32, .vCmpxLgF32,
     .vCmpxGeF32, .vCmpxOF32, .vCmpxUF32, .vCmpxNgeF32, .vCmpxNlgF32, .vCmpxNgtF32,
     .vCmpxNleF32, .vCmpxNeqF32, .vCmpxNltF32, .vCmpxTF32] : List (Form → Instr)).map fun mk =>
      some (mk (.vop3 (.pair 4) .off (.vgpr 0) (.vgpr 1))) := by decide +kernel

theorem test_decode_vop3_group_2 : [0x00020500D0400004, 0x00020500D0420004, 0x00020500D0440004, 0x00020500D0460004, 0x00020500D0480004,
     0x00020500D04A0004, 0x00020500D04C0004, 0x00020500D04E0004, 0x00020500D0500004, 0x00020500D0520004,
     0x00020500D0540004, 0x00020500D0560004, 0x00020500D0580004, 0x00020500D05A0004, 0x00020500D05C0004,
     0x00020500D05E0004].map (decodeTableWord 64) =
    ([.vCmpFF64, .vCmpLtF64, .vCmpEqF64, .vCmpLeF64, .vCmpGtF64, .vCmpLgF64,
     .vCmpGeF64, .vCmpOF64, .vCmpUF64, .vCmpNgeF64, .vCmpNlgF64, .vCmpNgtF64,
     .vCmpNleF64, .vCmpNeqF64, .vCmpNltF64, .vCmpTF64] : List (Form → Instr)).map fun mk =>
      some (mk (.vop3 (.pair 4) .off (.vgpr 0) (.vgpr 2))) := by decide +kernel

theorem test_decode_vop3_group_3 : [0x00020500D0600004, 0x00020500D0620004, 0x00020500D0640004, 0x00020500D0660004, 0x00020500D0680004,
     0x00020500D06A0004, 0x00020500D06C0004, 0x00020500D06E0004, 0x00020500D0700004, 0x00020500D0720004,
     0x00020500D0740004, 0x00020500D0760004, 0x00020500D0780004, 0x00020500D07A0004, 0x00020500D07C0004,
     0x00020500D07E0004].map (decodeTableWord 64) =
    ([.vCmpxFF64, .vCmpxLtF64, .vCmpxEqF64, .vCmpxLeF64, .vCmpxGtF64, .vCmpxLgF64,
     .vCmpxGeF64, .vCmpxOF64, .vCmpxUF64, .vCmpxNgeF64, .vCmpxNlgF64, .vCmpxNgtF64,
     .vCmpxNleF64, .vCmpxNeqF64, .vCmpxNltF64, .vCmpxTF64] : List (Form → Instr)).map fun mk =>
      some (mk (.vop3 (.pair 4) .off (.vgpr 0) (.vgpr 2))) := by decide +kernel

theorem test_decode_vop3_group_4 : [0x00020300D0800004, 0x00020300D0820004, 0x00020300D0840004, 0x00020300D0860004, 0x00020300D0880004,
     0x00020300D08A0004, 0x00020300D08C0004, 0x00020300D08E0004, 0x00020300D0900004, 0x00020300D0920004,
     0x00020300D0940004, 0x00020300D0960004, 0x00020300D0980004, 0x00020300D09A0004, 0x00020300D09C0004,
     0x00020300D09E0004].map (decodeTableWord 64) =
    ([.vCmpsFF32, .vCmpsLtF32, .vCmpsEqF32, .vCmpsLeF32, .vCmpsGtF32, .vCmpsLgF32,
     .vCmpsGeF32, .vCmpsOF32, .vCmpsUF32, .vCmpsNgeF32, .vCmpsNlgF32, .vCmpsNgtF32,
     .vCmpsNleF32, .vCmpsNeqF32, .vCmpsNltF32, .vCmpsTF32] : List (Form → Instr)).map fun mk =>
      some (mk (.vop3 (.pair 4) .off (.vgpr 0) (.vgpr 1))) := by decide +kernel

theorem test_decode_vop3_group_5 : [0x00020300D0A00004, 0x00020300D0A20004, 0x00020300D0A40004, 0x00020300D0A60004, 0x00020300D0A80004,
     0x00020300D0AA0004, 0x00020300D0AC0004, 0x00020300D0AE0004, 0x00020300D0B00004, 0x00020300D0B20004,
     0x00020300D0B40004, 0x00020300D0B60004, 0x00020300D0B80004, 0x00020300D0BA0004, 0x00020300D0BC0004,
     0x00020300D0BE0004].map (decodeTableWord 64) =
    ([.vCmpsxFF32, .vCmpsxLtF32, .vCmpsxEqF32, .vCmpsxLeF32, .vCmpsxGtF32, .vCmpsxLgF32,
     .vCmpsxGeF32, .vCmpsxOF32, .vCmpsxUF32, .vCmpsxNgeF32, .vCmpsxNlgF32, .vCmpsxNgtF32,
     .vCmpsxNleF32, .vCmpsxNeqF32, .vCmpsxNltF32, .vCmpsxTF32] : List (Form → Instr)).map fun mk =>
      some (mk (.vop3 (.pair 4) .off (.vgpr 0) (.vgpr 1))) := by decide +kernel

theorem test_decode_vop3_group_6 : [0x00020500D0C00004, 0x00020500D0C20004, 0x00020500D0C40004, 0x00020500D0C60004, 0x00020500D0C80004,
     0x00020500D0CA0004, 0x00020500D0CC0004, 0x00020500D0CE0004, 0x00020500D0D00004, 0x00020500D0D20004,
     0x00020500D0D40004, 0x00020500D0D60004, 0x00020500D0D80004, 0x00020500D0DA0004, 0x00020500D0DC0004,
     0x00020500D0DE0004].map (decodeTableWord 64) =
    ([.vCmpsFF64, .vCmpsLtF64, .vCmpsEqF64, .vCmpsLeF64, .vCmpsGtF64, .vCmpsLgF64,
     .vCmpsGeF64, .vCmpsOF64, .vCmpsUF64, .vCmpsNgeF64, .vCmpsNlgF64, .vCmpsNgtF64,
     .vCmpsNleF64, .vCmpsNeqF64, .vCmpsNltF64, .vCmpsTF64] : List (Form → Instr)).map fun mk =>
      some (mk (.vop3 (.pair 4) .off (.vgpr 0) (.vgpr 2))) := by decide +kernel

theorem test_decode_vop3_group_7 : [0x00020500D0E00004, 0x00020500D0E20004, 0x00020500D0E40004, 0x00020500D0E60004, 0x00020500D0E80004,
     0x00020500D0EA0004, 0x00020500D0EC0004, 0x00020500D0EE0004, 0x00020500D0F00004, 0x00020500D0F20004,
     0x00020500D0F40004, 0x00020500D0F60004, 0x00020500D0F80004, 0x00020500D0FA0004, 0x00020500D0FC0004,
     0x00020500D0FE0004].map (decodeTableWord 64) =
    ([.vCmpsxFF64, .vCmpsxLtF64, .vCmpsxEqF64, .vCmpsxLeF64, .vCmpsxGtF64, .vCmpsxLgF64,
     .vCmpsxGeF64, .vCmpsxOF64, .vCmpsxUF64, .vCmpsxNgeF64, .vCmpsxNlgF64, .vCmpsxNgtF64,
     .vCmpsxNleF64, .vCmpsxNeqF64, .vCmpsxNltF64, .vCmpsxTF64] : List (Form → Instr)).map fun mk =>
      some (mk (.vop3 (.pair 4) .off (.vgpr 0) (.vgpr 2))) := by decide +kernel

theorem test_decode_vop3_group_8 : [0x00020300D1000004, 0x00020300D1020004, 0x00020300D1040004, 0x00020300D1060004, 0x00020300D1080004,
     0x00020300D10A0004, 0x00020300D10C0004, 0x00020300D10E0004, 0x00020300D1100004].map (decodeTableWord 64) =
    ([.vCmpFI32, .vCmpLtI32, .vCmpEqI32, .vCmpLeI32, .vCmpGtI32, .vCmpLgI32,
     .vCmpGeI32, .vCmpTI32, .vCmpClassF32] : List (Form → Instr)).map fun mk =>
      some (mk (.vop3 (.pair 4) .off (.vgpr 0) (.vgpr 1))) := by decide +kernel

theorem test_decode_vop3_group_9 : [0x00020300D1200004, 0x00020300D1220004, 0x00020300D1240004, 0x00020300D1260004, 0x00020300D1280004,
     0x00020300D12A0004, 0x00020300D12C0004, 0x00020300D12E0004, 0x00020300D1300004].map (decodeTableWord 64) =
    ([.vCmpxFI32, .vCmpxLtI32, .vCmpxEqI32, .vCmpxLeI32, .vCmpxGtI32, .vCmpxLgI32,
     .vCmpxGeI32, .vCmpxTI32, .vCmpxClassF32] : List (Form → Instr)).map fun mk =>
      some (mk (.vop3 (.pair 4) .off (.vgpr 0) (.vgpr 1))) := by decide +kernel

theorem test_decode_vop3_group_A : [0x00020500D1400004, 0x00020500D1420004, 0x00020500D1440004, 0x00020500D1460004, 0x00020500D1480004,
     0x00020500D14A0004, 0x00020500D14C0004, 0x00020500D14E0004, 0x00020500D1500004].map (decodeTableWord 64) =
    ([.vCmpFI64, .vCmpLtI64, .vCmpEqI64, .vCmpLeI64, .vCmpGtI64, .vCmpLgI64,
     .vCmpGeI64, .vCmpTI64, .vCmpClassF64] : List (Form → Instr)).map fun mk =>
      some (mk (.vop3 (.pair 4) .off (.vgpr 0) (.vgpr 2))) := by decide +kernel

theorem test_decode_vop3_group_B : [0x00020500D1600004, 0x00020500D1620004, 0x00020500D1640004, 0x00020500D1660004, 0x00020500D1680004,
     0x00020500D16A0004, 0x00020500D16C0004, 0x00020500D16E0004, 0x00020500D1700004].map (decodeTableWord 64) =
    ([.vCmpxFI64, .vCmpxLtI64, .vCmpxEqI64, .vCmpxLeI64, .vCmpxGtI64, .vCmpxLgI64,
     .vCmpxGeI64, .vCmpxTI64, .vCmpxClassF64] : List (Form → Instr)).map fun mk =>
      some (mk (.vop3 (.pair 4) .off (.vgpr 0) (.vgpr 2))) := by decide +kernel

theorem test_decode_vop3_group_C : [0x00020300D1800004, 0x00020300D1820004, 0x00020300D1840004, 0x00020300D1860004, 0x00020300D1880004,
     0x00020300D18A0004, 0x00020300D18C0004, 0x00020300D18E0004].map (decodeTableWord 64) =
    ([.vCmpFU32, .vCmpLtU32, .vCmpEqU32, .vCmpLeU32, .vCmpGtU32, .vCmpLgU32,
     .vCmpGeU32, .vCmpTU32] : List (Form → Instr)).map fun mk =>
      some (mk (.vop3 (.pair 4) .off (.vgpr 0) (.vgpr 1))) := by decide +kernel

theorem test_decode_vop3_group_D : [0x00020300D1A00004, 0x00020300D1A20004, 0x00020300D1A40004, 0x00020300D1A60004, 0x00020300D1A80004,
     0x00020300D1AA0004, 0x00020300D1AC0004, 0x00020300D1AE0004].map (decodeTableWord 64) =
    ([.vCmpxFU32, .vCmpxLtU32, .vCmpxEqU32, .vCmpxLeU32, .vCmpxGtU32, .vCmpxLgU32,
     .vCmpxGeU32, .vCmpxTU32] : List (Form → Instr)).map fun mk =>
      some (mk (.vop3 (.pair 4) .off (.vgpr 0) (.vgpr 1))) := by decide +kernel

theorem test_decode_vop3_group_E : [0x00020500D1C00004, 0x00020500D1C20004, 0x00020500D1C40004, 0x00020500D1C60004, 0x00020500D1C80004,
     0x00020500D1CA0004, 0x00020500D1CC0004, 0x00020500D1CE0004].map (decodeTableWord 64) =
    ([.vCmpFU64, .vCmpLtU64, .vCmpEqU64, .vCmpLeU64, .vCmpGtU64, .vCmpLgU64,
     .vCmpGeU64, .vCmpTU64] : List (Form → Instr)).map fun mk =>
      some (mk (.vop3 (.pair 4) .off (.vgpr 0) (.vgpr 2))) := by decide +kernel

theorem test_decode_vop3_group_F : [0x00020500D1E00004, 0x00020500D1E20004, 0x00020500D1E40004, 0x00020500D1E60004, 0x00020500D1E80004,
     0x00020500D1EA0004, 0x00020500D1EC0004, 0x00020500D1EE0004].map (decodeTableWord 64) =
    ([.vCmpxFU64, .vCmpxLtU64, .vCmpxEqU64, .vCmpxLeU64, .vCmpxGtU64, .vCmpxLgU64,
     .vCmpxGeU64, .vCmpxTU64] : List (Form → Instr)).map fun mk =>
      some (mk (.vop3 (.pair 4) .off (.vgpr 0) (.vgpr 2))) := by decide +kernel

/-! The words of 95_test_vectors.md §2.1 with operands of each kind. -/

theorem test_decode_v255 : decodeTableWord 32 0x7C1FFFFF = some (.vCmpTF32 (.vopc (.vgpr 255) 255)) := by decide +kernel

theorem test_decode_v254_pair : decodeTableWord 32 0x7CFFFDFE = some (.vCmpsxTF64 (.vopc (.vgpr 254) 254)) := by decide +kernel

theorem test_decode_sgpr : decodeTableWord 32 0x7D0C0E04 = some (.vCmpGeI32 (.vopc (.sgpr 4) 7)) := by decide +kernel

theorem test_decode_vcc : decodeTableWord 32 0x7DEE046A = some (.vCmpxTU64 (.vopc .vccLo 2)) := by decide +kernel

theorem test_decode_literal : decodeTableWord 64 0x40490FDB7C0406FF = some (.vCmpEqF32 (.vopc (.literal 0x40490FDB#32) 3)) := by decide +kernel

theorem test_decode_inline_minus_one : decodeTableWord 32 0x7D0800C1 = some (.vCmpGtI32 (.vopc (.inlineInt (-1)) 0)) := by decide +kernel

theorem test_decode_modifiers : decodeTableWord 64 0x20020300D002016A = some (.vCmpLtF32 (.vop3 .vcc ⟨true, false, true, false⟩ (.vgpr 0) (.vgpr 1))) := by decide +kernel

theorem test_decode_both_modifiers : decodeTableWord 64 0x60001502D05C0266 = some (.vCmpNltF64 (.vop3 (.pair 102) ⟨false, true, true, true⟩ (.vgpr 2) (.sgpr 10))) := by decide +kernel

theorem test_decode_exec : decodeTableWord 64 0x0002127ED1A60000 = some (.vCmpxLeU32 (.vop3 (.pair 0) .off .execLo (.vgpr 9))) := by decide +kernel

theorem test_decode_class_mask : decodeTableWord 64 0x00010700D170006A = some (.vCmpxClassF64 (.vop3 .vcc .off (.vgpr 0) (.inlineInt 3))) := by decide +kernel

theorem test_decode_inline_float : decodeTableWord 64 0x000202F2D0900008 = some (.vCmpsUF32 (.vop3 (.pair 8) .off (.inlineFloat .one) (.vgpr 1))) := by decide +kernel

/-! The refused words of 95_test_vectors.md §2.9, by label. -/

theorem test_refused_unsupportedModifier : [[0xD0020804#32, 0x00020300#32],
     [0xD0020004#32, 0x08020300#32],
     [0xD0020004#32, 0x040A0300#32],
     [0xD0020404#32, 0x00020300#32],
     [0xD0020004#32, 0x80020300#32],
     [0xD0021004#32, 0x00020300#32],
     [0xD0028004#32, 0x00020300#32],
     [0xD0030004#32, 0x00020300#32]].map (labelOf .default) =
    List.replicate 8 (some .unsupportedModifier) := by decide +kernel

theorem test_refused_destinationRefused : [[0xD0020005#32, 0x00020300#32],
     [0xD002007E#32, 0x00020300#32],
     [0xD0020068#32, 0x00020300#32]].map (labelOf .default) =
    List.replicate 3 (some .destinationRefused) := by decide +kernel

theorem test_refused_twoScalarRegisters : [[0xD1820004#32, 0x00000602#32],
     [0xD1820004#32, 0x0000D402#32]].map (labelOf .default) =
    List.replicate 2 (some .twoScalarRegisters) := by decide +kernel

theorem test_refused_literalNotAdmitted : [[0xD1820004#32, 0x000200FF#32],
     [0x7C4200FF#32, 0x3FF00000#32]].map (labelOf .default) =
    List.replicate 2 (some .literalNotAdmitted) := by decide +kernel

theorem test_refused_inline64 : [[0x7C4200F2#32],
     [0x7D420081#32]].map (labelOf .default) =
    List.replicate 2 (some .inline64) := by decide +kernel

theorem test_refused_sgprPairMisaligned : [[0x7D420003#32]].map (labelOf .default) =
    List.replicate 1 (some .sgprPairMisaligned) := by decide +kernel

theorem test_refused_operandCodeRefused64 : [[0x7D42007C#32]].map (labelOf .default) =
    List.replicate 1 (some .operandCodeRefused64) := by decide +kernel

theorem test_refused_vgprPairOutOfRange : [[0x7D43FF00#32],
     [0x7D4201FF#32]].map (labelOf .default) =
    List.replicate 2 (some .vgprPairOutOfRange) := by decide +kernel

theorem test_refused_ldsDirect : [[0x7C0200FE#32]].map (labelOf .default) =
    List.replicate 1 (some .ldsDirect) := by decide +kernel

theorem test_refused_operandCodeRefused : [[0x7C0200FB#32],
     [0x7C020070#32],
     [0x7C0200D1#32]].map (labelOf .default) =
    List.replicate 3 (some .operandCodeRefused) := by decide +kernel

theorem test_refused_unlistedOpcode : [[0x7D120300#32],
     [0x7D900300#32],
     [0x7DFE0300#32],
     [0xD1F00004#32, 0x00020300#32]].map (labelOf .default) =
    List.replicate 4 (some .unlistedOpcode) := by decide +kernel

theorem test_refused_vop3OpcodeOutOfScope : [[0xD2000004#32, 0x00020300#32]].map (labelOf .default) =
    List.replicate 1 (some .vop3OpcodeOutOfScope) := by decide +kernel

theorem test_refused_encodingOutOfScope : [[0xBF810000#32],
     [0x00000000#32]].map (labelOf .default) =
    List.replicate 2 (some .encodingOutOfScope) := by decide +kernel

theorem test_refused_fetchOutsideProgram : [[0xD0020004#32],
     [0x7C0202FF#32]].map (labelOf .default) =
    List.replicate 2 (some .fetchOutsideProgram) := by decide +kernel

theorem test_refused_gcn12OpcodeMapEmpty : labelOf gcn12 [0x7C020300#32] = some .gcn12OpcodeMapEmpty := by decide +kernel

/-! Every floating-point compare on setup B of 95_test_vectors.md §2.2 (relations LT, EQ, GT, UN, UN signalling, GT), and every
integer compare on the operands of §2.3; the words are those of the decode tests. -/

/-- §2.2, 32-bit groups. -/
def floats32 : State := testState 0x3F#64 [(0, [(0, 0x3F800000#32), (1, 0x80000000#32), (2, 0x7F800000#32), (3, 0x7FC00000#32), (4, 0x3F800000#32), (5, 0x1#32)]),
    (1, [(0, 0x40000000#32), (2, 0xC0800000#32), (3, 0x3F800000#32), (4, 0x7F800001#32)])]

/-- §2.2, 64-bit groups. -/
def floats64 : State := testState 0x3F#64 [(0, [(5, 0x1#32)]), (1, [(0, 0x3FF00000#32), (1, 0x80000000#32), (2, 0x7FF00000#32), (3, 0x7FF80000#32), (4, 0x3FF00000#32)]),
    (2, [(4, 0x1#32)]), (3, [(0, 0x40000000#32), (2, 0xC0100000#32), (3, 0x3FF00000#32), (4, 0x7FF00000#32)])]

/-- §2.3, 32-bit groups. -/
def ints32 : State := testState 0xF#64 [(0, [(0, 0xFFFFFFFF#32), (1, 0x5#32), (2, 0x7#32), (3, 0x80000000#32)]),
    (1, [(1, 0x5#32), (2, 0x3#32), (3, 0x7FFFFFFF#32)])]

/-- §2.3, 64-bit groups. -/
def ints64 : State := testState 0xF#64 [(0, [(0, 0xFFFFFFFF#32), (1, 0x5#32)]), (1, [(0, 0xFFFFFFFF#32), (1, 0x5#32), (2, 0x1#32), (3, 0x80000000#32)]),
    (2, [(1, 0x5#32), (2, 0xFFFFFFFF#32), (3, 0xFFFFFFFF#32)]), (3, [(1, 0x5#32), (3, 0x7FFFFFFF#32)])]

/-- The masks after the `n` instructions whose VOPC words start at `word`, one opcode apart (bit 17, R70). -/
def groupAfter (s : State) (n word : Nat) : List (Option (Nat × Nat × Bool)) :=
  (List.range n).map fun k => masksAfter s 32 (word + k * 2 ^ 17)

/-- Column "setup B" of §2.2, offsets 0 to 15. -/
def floatMasks : List Nat :=
  [0x00, 0x01, 0x02, 0x03, 0x24, 0x25, 0x26, 0x27, 0x18, 0x19, 0x1A, 0x1B, 0x3C, 0x3D, 0x3E, 0x3F]

/-- The signed column of §2.3. -/
def signedMasks : List Nat := [0x0, 0x9, 0x2, 0xB, 0x4, 0xD, 0x6, 0xF]

/-- The unsigned column of §2.3. -/
def unsignedMasks : List Nat := [0x0, 0x0, 0x2, 0x2, 0xD, 0xD, 0xF, 0xF]

theorem test_float_group_0 : groupAfter floats32 16 0x7C000300 = floatMasks.map fun d => some (d, 0x3F, true) := by decide +kernel

theorem test_float_group_1 : groupAfter floats32 16 0x7C200300 = floatMasks.map fun d => some (d, d, true) := by decide +kernel

theorem test_float_group_2 : groupAfter floats64 16 0x7C400500 = floatMasks.map fun d => some (d, 0x3F, true) := by decide +kernel

theorem test_float_group_3 : groupAfter floats64 16 0x7C600500 = floatMasks.map fun d => some (d, d, true) := by decide +kernel

theorem test_float_group_4 : groupAfter floats32 16 0x7C800300 = floatMasks.map fun d => some (d, 0x3F, true) := by decide +kernel

theorem test_float_group_5 : groupAfter floats32 16 0x7CA00300 = floatMasks.map fun d => some (d, d, true) := by decide +kernel

theorem test_float_group_6 : groupAfter floats64 16 0x7CC00500 = floatMasks.map fun d => some (d, 0x3F, true) := by decide +kernel

theorem test_float_group_7 : groupAfter floats64 16 0x7CE00500 = floatMasks.map fun d => some (d, d, true) := by decide +kernel

theorem test_int_group_8 : groupAfter ints32 8 0x7D000300 = signedMasks.map fun d => some (d, 0xF, false) := by decide +kernel

theorem test_int_group_9 : groupAfter ints32 8 0x7D200300 = signedMasks.map fun d => some (d, d, false) := by decide +kernel

theorem test_int_group_A : groupAfter ints64 8 0x7D400500 = signedMasks.map fun d => some (d, 0xF, false) := by decide +kernel

theorem test_int_group_B : groupAfter ints64 8 0x7D600500 = signedMasks.map fun d => some (d, d, false) := by decide +kernel

theorem test_int_group_C : groupAfter ints32 8 0x7D800300 = unsignedMasks.map fun d => some (d, 0xF, false) := by decide +kernel

theorem test_int_group_D : groupAfter ints32 8 0x7DA00300 = unsignedMasks.map fun d => some (d, d, false) := by decide +kernel

theorem test_int_group_E : groupAfter ints64 8 0x7DC00500 = unsignedMasks.map fun d => some (d, 0xF, false) := by decide +kernel

theorem test_int_group_F : groupAfter ints64 8 0x7DE00500 = unsignedMasks.map fun d => some (d, d, false) := by decide +kernel

/-- Setup A of §2.2: a quiet NaN signals in the groups V_CMPS and V_CMPSX only. -/
theorem test_quiet_nan_signal : ([0x00, 0x10, 0x40, 0x50].map fun op => (masksAfter { floats32 with execMask := 0xF#64 } 32 (0x7C000300 + op * 2 ^ 17)).map
    fun m => m.2.2) = [some false, some false, some true, some true] := by decide +kernel

theorem test_quiet_nan_signal_64 : ([0x20, 0x30, 0x60, 0x70].map fun op => (masksAfter { floats64 with execMask := 0xF#64 } 32 (0x7C000500 + op * 2 ^ 17)).map
    fun m => m.2.2) = [some false, some false, some true, some true] := by decide +kernel

/-! The class tests (95_test_vectors.md §2.4): lane `L` holds a pattern of class `L`. -/

/-- The ten binary32 patterns. -/
def classes32 (mask : Word) : State := testState 0x3FF#64 [(0, [(0, 0x7F800001#32), (1, 0x7FC00000#32), (2, 0xFF800000#32), (3, 0xBF800000#32), (4, 0x80000001#32), (5, 0x80000000#32), (7, 0x1#32), (8, 0x3F800000#32), (9, 0x7F800000#32)]),
    (1, (List.range 10).map fun L => (L, mask))]

/-- The ten binary64 patterns. -/
def classes64 (maskLo maskHi : Word) : State := testState 0x3FF#64 [(0, [(0, 0x1#32), (4, 0x1#32), (7, 0xFFFFFFFF#32)]),
    (1, [(0, 0x7FF00000#32), (1, 0x7FF80000#32), (2, 0xFFF00000#32), (3, 0xBFF00000#32), (4, 0x80000000#32), (5, 0x80000000#32), (7, 0xFFFFF#32), (8, 0x3FF00000#32), (9, 0x7FF00000#32)]),
    (2, (List.range 10).map fun L => (L, maskLo)), (3, (List.range 10).map fun L => (L, maskHi))]

theorem test_class_f32 : [0x204, 0x90, 0x60, 0x3FF, 0xFFFFFC00].map (fun m => masksAfter (classes32 (BitVec.ofNat 32 m)) 32 0x7D100300) =
    [some (0x204, 0x3FF, false), some (0x90, 0x3FF, false), some (0x60, 0x3FF, false), some (0x3FF, 0x3FF, false),
     some (0, 0x3FF, false)] := by decide +kernel

theorem test_class_f32_negated : masksAfter (classes32 0#32) 64 0x20018100D110006A = some (0x20, 0x3FF, false) := by decide +kernel

theorem test_class_x_f32 : masksAfter { classes32 0x3FE#32 with execMask := 0x2AA#64 } 32 0x7D300300 = some (0x2AA, 0x2AA, false) := by decide +kernel

theorem test_class_f64 : masksAfter (classes64 0x00000181#32 0xFFFFFFFF#32) 32 0x7D500500 = some (0x181, 0x3FF, false) := by decide +kernel

theorem test_class_x_f64 : pairAfter (classes64 0#32 0#32) 4 64 0x00011100D1700004 = some (8, 0, false, 8) := by decide +kernel

/-! Single vectors of 95_test_vectors.md §2.5 to §2.8. -/

theorem test_T1_idle_lane_zero : masksAfter { testState 0xA#64 [(0, [(1, 7#32), (3, 9#32)])] with vcc := BitVec.allOnes 64 } 32 0x7D840100 =
    some (0xA, 0xA, false) := by decide +kernel

theorem test_T2_lanes_31_32_63 : pairAfter (testState 0x8000000180000000#64 [(0, [(31, 1#32), (32, 5#32), (63, 0xFFFFFFFF#32)]), (1, [(31, 2#32), (32, 5#32), (63, 0#32)])])
    6 64 0x00020300D1020006 = some (0x80000000, 0x80000000, false, 8) := by decide +kernel

theorem test_T3_exec_zero : masksAfter { testState 0#64 [] with vcc := 0x123#64 } 32 0x7C3E0300 = some (0, 0, false) := by decide +kernel

theorem test_T6_abs : pairAfter (testState 7#64 [(0, [(0, 0xC0000000#32), (1, 0xBF000000#32), (2, 0x80000000#32)]), (1, [(0, 0x3F800000#32), (1, 0x3F800000#32), (2, 0x3F800000#32)])])
    4 64 0x00020300D0020104 = some (6, 0, false, 8) := by decide +kernel

theorem test_T9_abs_signals : pairAfter (testState 1#64 [(0, [(0, 0xFF800001#32)])]) 4 64 0x00020100D00E0104 = some (0, 0, true, 8) := by decide +kernel

theorem test_T10_neg_integer : pairAfter (testState 3#64 [(0, [(0, 5#32), (1, 0x80000005#32)])]) 4 64 0x20020300D1020004 = some (1, 0, false, 8) := by decide +kernel

theorem test_T11_abs_64 : pairAfter (testState 1#64 [(1, [(0, 0xC0000000#32)]), (3, [(0, 0x40000000#32)])]) 4 64 0x00020500D04C0104 = some (1, 0, false, 8) := by decide +kernel

theorem test_T12_broadcast : pairAfter ((testState 0xF#64 [(0, [(0, 9#32), (1, 0xA#32), (2, 0xB#32), (3, 0xFFFFFFFF#32)])]).setSgpr 4 0xA#32)
    10 64 0x00020004D182000A = some (0xC, 0, false, 8) := by decide +kernel

theorem test_T15_overlap : pairAfter (((testState 3#64 [(0, [(0, 2#32), (1, 3#32)])]).setSgpr 4 2#32).setSgpr 5 0xDEADBEEF#32)
    4 64 0x00020004D1840004 = some (1, 0, false, 8) := by decide +kernel

theorem test_T16_old_vcc : masksAfter { testState 3#64 [(0, [(0, 3#32), (1, 4#32)])] with vcc := 0xAAAAAAAA00000003#64 } 32 0x7D8A006A =
    some (2, 3, false) := by decide +kernel

theorem test_T17_old_exec : pairAfter (testState 7#64 [(9, [(0, 6#32), (1, 7#32), (2, 8#32)])]) 0 64 0x0002127ED1A60000 = some (6, 0, false, 8) := by decide +kernel

theorem test_T18_vcc_64 : pairAfter { testState 3#64 [(0, [(0, 2#32), (1, 2#32)]), (1, [(0, 1#32)])] with vcc := 0x100000002#64 }
    4 64 0x0002006AD1C40004 = some (1, 0, false, 8) := by decide +kernel

theorem test_T19_m0 : masksAfter { testState 3#64 [(0, [(0, 0x63#32), (1, 0x64#32)])] with m0 := 0x64#32 } 32 0x7D88007C = some (1, 3, false) := by decide +kernel

theorem test_T22_literal : (after (testState 3#64 [(3, [(0, 0x40490FDB#32), (1, 0x40490FDA#32)])]) 64 0x40490FDB7C0406FF).map
    (fun t => (t.vcc.toNat, t.pc)) = some (1, 8) := by decide +kernel

theorem test_T23_T24_u_reading : [UReading.unordered, .asPrinted].map (fun r => masksAfter { testState 7#64 [(0, [(0, 0x3F800000#32), (1, 0x7FC00000#32), (2, 0x7FC00000#32)]), (1, [(0, 0x3F800000#32), (1, 0x3F800000#32), (2, 0x7FC00000#32)])]
    with config := { Config.default with uReading := r } } 32 0x7C100300) = [some (6, 7, false), some (3, 7, false)] := by decide +kernel

theorem test_T25_T26_denorm_mode : [DenormMode.preserve, .flushInputs].map (fun m => masksAfter { testState 7#64 [(0, [(0, 0x80000001#32), (2, 1#32)]), (1, [(1, 1#32), (2, 2#32)])]
    with config := { Config.default with denormF32 := m } } 32 0x7C020300) = [some (7, 7, false), some (0, 7, false)] := by decide +kernel

/-- The start of T28. -/
def signalState : State :=
  { testState 3#64 [(0, [(1, 1#32)]), (1, [(0, 0x3FF00000#32), (1, 0x7FF00000#32)]), (3, [(0, 0x3FF00000#32), (1, 0x3FF00000#32)])]
    with config := { Config.default with signalMode := .fault } }

theorem test_T28_signal_fault : (match step (signalState.withFetchWord 32 0x7C7A0500) with
    | .fault (.signal t) => some (t.vcc.toNat, t.execMask.toNat, t.signal, t.pc)
    | _ => none) = some (2, 2, true, 4) := by decide +kernel

/-! A register with no value (10_state.md R31): T29 to T31 and program P5 of 95_test_vectors.md. -/

theorem test_T29_unwritten_vgpr_lane : [3#64, 1#64, 0#64].map (fun e => isUnwritten (step ((sparseState e [(0, [(0, 1#32), (1, 1#32)]), (1, [(0, 1#32)])]).withFetchWord 32 0x7D840300))) =
    [true, false, false] := by decide +kernel

theorem test_T30_unwritten_sgpr : [1#64, 0#64].map (fun e => isUnwritten (step ((sparseState e [(0, [(0, 1#32)])]).withFetchWord 32 0x7D840009))) =
    [true, false] := by decide +kernel

theorem test_T31_unwritten_pair_half : (let s := (sparseState 1#64 [(0, [(0, 0#32)]), (1, [(0, 0#32)])]).setSgpr 8 0#32
    [s, s.setSgpr 9 0#32].map fun s => isUnwritten (step (s.withFetchWord 64 0x00020008D1C40000))) = [true, false] := by decide +kernel

/-- The start of P5, with the lanes of `v2` given. -/
def p5 (v2 : List (Nat × Word)) : State :=
  { sparseState 7#64 [(0, [(0, 1#32), (1, 5#32), (2, 9#32)]), (1, [(0, 0#32), (1, 7#32), (2, 3#32)]), (2, v2)]
    with mem := Memory.load [] 0 ([0x7D280300#32, 0xD1020002#32, 0x00020102#32].flatMap bytesOfWord) }

theorem test_P5_second_read_faults : (match step (p5 [(0, 0#32)]) with
    | .next t => some (t.vcc.toNat, t.execMask.toNat, t.pc, isUnwritten (step t))
    | _ => none) = some (5, 5, 4, true) := by decide +kernel

theorem test_P5_repaired_ends : (match Host.Core.run Sys2Proof.core 2 (p5 [(0, 0#32), (2, 20#32)]) with
    | .next t => some ((State.sgpr t 2).toNat, (State.sgpr t 3).toNat, State.sgprHolds t 2, State.sgprHolds t 4, State.pc t)
    | _ => none) = some (1, 0, true, false, 12) := by decide +kernel

/-! For every statement with hypotheses, a state and operands that meet them all; `test_witness_<statement>` names the statement. -/

/-- The outcome is a next state. -/
def isNext (o : Outcome) : Bool :=
  match o with
  | .next _ => true
  | _ => false

/-- The outcome is the signal's fault. -/
def isSignal (o : Outcome) : Bool :=
  match o with
  | .fault (.signal _) => true
  | _ => false

theorem next_of_isNext {o : Outcome} (h : isNext o = true) : ∃ t, o = .next t := by
  cases o with
  | next t => exact ⟨t, rfl⟩
  | fault => cases h
  | refused => cases h

theorem signal_of_isSignal {o : Outcome} (h : isSignal o = true) : ∃ t, o = .fault (.signal t) := by
  cases o with
  | next => cases h
  | fault f => cases f with
    | unwrittenRegister => cases h
    | signal t => exact ⟨t, rfl⟩
  | refused => cases h

theorem unwritten_of_isUnwritten {o : Outcome} (h : isUnwritten o = true) : o = .fault .unwrittenRegister := by
  cases o with
  | next => cases h
  | fault f => cases f with
    | unwrittenRegister => rfl
    | signal => cases h
  | refused => cases h

/-- A state reached from one that wrote. -/
theorem wrote_of_isNext {i : Instr} {s : State} (h : isNext (exec i s) = true) : ∃ t, Wrote i s t :=
  (next_of_isNext h).imp fun _ h => .inl h

/-- Two lanes, 1.0 and 2.0 against 2.0 and a signalling NaN. -/
def twoLanes : State :=
  testState 3#64 [(0, [(0, 0x3F800000#32), (1, 0x40000000#32)]), (1, [(0, 0x40000000#32), (1, 0x7F800001#32)])]

/-- The same with SIGNAL_MODE = fault. -/
def twoLanesFault : State := { twoLanes with config := { Config.default with signalMode := .fault } }

/-- The same in lane 0 only, where nothing signals. -/
def oneLaneFault : State := { twoLanesFault with execMask := 1#64 }

/-- Lanes 0 and 1 with `v1` given in lane 0 only, and no register but `v0` besides. -/
def missingLane : State := sparseState 3#64 [(0, [(0, 1#32), (1, 1#32)]), (1, [(0, 1#32)])]

/-- GCN 1.2 with a map of two opcodes. -/
def mapped12 : Config := { Config.default with version := .v1_2, gcn12Map := [(0xFF, 0x01), (0x3FF, 0x2E)] }

/-- `V_CMPX_LT_F32` with its boundary operands in both forms. -/
def vopcTop : Instr := .vCmpxLtF32 (.vopc (.vgpr 255) 255)
def vop3Top : Instr := .vCmpNltF64 (.vop3 (.pair 102) ⟨true, true, true, true⟩ (.vgpr 254) (.sgpr 102))

/-- A launched program of two instructions, `V_CMPX_LT_F32 VCC, V0, V1` and `V_CMP_T_I32 S[4:5], V0, V0`, at address 0x100. -/
def launchedState : State :=
  { twoLanes with
    mem := Memory.load [] 0x100 ([0x7C220300#32, 0xD10E0004#32, 0x00020100#32].flatMap bytesOfWord)
    programBase := 0x100
    pc := 0x100 }

theorem launchedState_launched : Launched launchedState :=
  ⟨by decide +kernel, by decide +kernel, by decide +kernel, by decide +kernel, by decide +kernel⟩

theorem launchedState_end_launched : Launched { launchedState with pc := 0x10C } :=
  ⟨by decide +kernel, by decide +kernel, by decide +kernel, by decide +kernel, by decide +kernel⟩

theorem twoLanes_signals : someLaneSignals twoLanes (laneSignals (.vCmpLtF32 (.vopc (.vgpr 0) 1)) twoLanes) :=
  ⟨1, by decide +kernel, by decide +kernel, by decide +kernel⟩

theorem test_witness_DecodeOfEncodeIsIdentity : Config.default.mapped ∧ vopcTop.WellFormed .default ∧
    vop3Top.WellFormed .default ∧ Instr.WellFormed .default (.vCmpEqF32 (.vopc (.literal 0#32) 0)) := by decide +kernel

theorem test_witness_EncodeOfDecodeGivesBytesBack : Config.default.mapped ∧
    decode .default (encode vop3Top ++ [7#8]) = .ok (vop3Top, [7#8]) := by decide +kernel

theorem test_witness_DecodedInstructionIsWellFormed : decode .default (encode vopcTop ++ [7#8]) = .ok (vopcTop, [7#8]) := by
  decide +kernel

theorem test_witness_Gcn12LayoutRoundTrips : mapped12.version = .v1_2 ∧
    (mapped12.gcn12Map.lookup 0xFF = some (Instr.opcode (.vCmpLtF32 (.vopc (.vgpr 255) 255))) ∧
      0xFF < opcodeLimit12 (.vopc (.vgpr 255) 255) ∧ Instr.WellFormed mapped12 (.vCmpLtF32 (.vopc (.vgpr 255) 255))) ∧
    (mapped12.gcn12Map.lookup 0x3FF = some (Instr.opcode (.vCmpNltF64 (.vop3 (.pair 100) .off (.vgpr 0) (.vgpr 2)))) ∧
      0x3FF < opcodeLimit12 (.vop3 (.pair 100) .off (.vgpr 0) (.vgpr 2)) ∧
      Instr.WellFormed mapped12 (.vCmpNltF64 (.vop3 (.pair 100) .off (.vgpr 0) (.vgpr 2)))) := by decide +kernel

theorem test_witness_VopcWordFieldsTile : Config.default.mapped ∧
    decode .default (bytesOfWord 0x7C23FFFF#32 ++ []) = .ok (vopcTop, []) ∧
    decode .default (bytesOfWord 0xD0020004#32 ++ bytesOfWord 0x00020300#32) =
      .ok (.vCmpLtF32 (.vop3 (.pair 4) .off (.vgpr 0) (.vgpr 1)), []) := by decide +kernel

theorem test_witness_OpcodeNumbersShared : Config.default.mapped ∧
    decode .default (bytesOfWord 0x7DEE0500#32 ++ []) = .ok (.vCmpxTU64 (.vopc (.vgpr 0) 2), []) ∧
    (field 0xD2000004#32 26 6 = 0x34 ∧ 256 ≤ field 0xD2000004#32 17 9) ∧
    (field 0xD3FE0004#32 26 6 = 0x34 ∧ field 0xD3FE0004#32 17 9 = 511) := by decide +kernel

theorem test_witness_UnlistedOpcodesRefused :
    (unlistedOp 137 = true ∧ unlistedOp 255 = true ∧ unlistedOp 136 = false ∧ unlistedOp 247 = false) ∧
    (field 0x7D1202FF#32 25 7 = 0x3E ∧ unlistedOp (field 0x7D1202FF#32 17 8) = true ∧ field 0x7D1202FF#32 0 9 = 255 ∧
      4 ≤ [0#8, 0#8, 0#8, 0#8].length) ∧
    (field 0xD1FE0004#32 26 6 = 0x34 ∧ mustBeZero .default 0xD1FE0004#32 0x00020300#32 = true ∧
      unlistedOp (field 0xD1FE0004#32 17 9) = true) := by decide +kernel

theorem test_witness_MustBeZeroBitsRefused : field 0xD0020404#32 26 6 = 0x34 ∧ field 0xD0020404#32 17 9 < 256 ∧
    field 0xD0020404#32 10 1 ≠ 0 ∧ field 0xD0020804#32 11 6 ≠ 0 ∧ field 0xD0030004#32 11 6 ≠ 0 ∧
    field 0x00060300#32 18 9 ≠ 0 ∧ field 0x04020300#32 18 9 ≠ 0 ∧ field 0x10020300#32 27 2 ≠ 0 ∧
    field 0x80020300#32 31 1 ≠ 0 := by decide +kernel

theorem test_witness_InlineConstantPatterns : parseSrc (128 + 64) none = .ok (.inlineInt 64) ∧
    parseSrc (192 + 16) none = .ok (.inlineInt (-16)) ∧ parseSrc 247 none = .ok (.inlineFloat .negFour) := by decide +kernel

theorem test_witness_SpecialScalarSources : (0 : Nat) < 32 ∧ (31 : Nat) < 32 := by decide

theorem test_witness_PairsAreLowFirst : (0 : Nat) < 32 ∧ (31 : Nat) < 32 := by decide

theorem test_witness_TwoScalarRegistersRefused :
    let cfg := Config.default
    (admitSrc cfg .b32 false false (.sgpr 103) = none ∧ admitSrc cfg .b32 false false .m0 = none ∧ admitSdst cfg .vcc = none ∧
      Instr.check cfg (.vCmpLtU32 (.vop3 .vcc .off (.sgpr 103) .m0)) = some .twoScalarRegisters) ∧
    Instr.check cfg (.vCmpLtU32 (.vop3 .vcc .off .m0 .m0)) = none := by decide +kernel

theorem test_witness_Gcn12EmptyMapRefusesAll : gcn12.version = .v1_2 ∧ gcn12.gcn12Map = [] ∧
    noFetch { launchedState with config := gcn12 } = none := by decide +kernel

theorem test_witness_StepRunsDecodedInstruction : launchedState.programBase % 4 = 0 ∧ launchedState.pc % 4 = 0 ∧
    decode launchedState.config launchedState.fetchBytes =
      .ok (.vCmpxLtF32 (.vopc (.vgpr 0) 1), bytesOfWord 0xD10E0004#32) := by decide +kernel

theorem test_witness_StepRunsEncodedInstruction : launchedState.config.mapped ∧
    Instr.WellFormed launchedState.config (.vCmpxLtF32 (.vopc (.vgpr 0) 1)) ∧
    launchedState.programBase % 4 = 0 ∧ launchedState.pc % 4 = 0 ∧ launchedState.programBase ≤ launchedState.pc ∧
    launchedState.pc + (encode (.vCmpxLtF32 (.vopc (.vgpr 0) 1))).length ≤ launchedState.programEnd ∧
    ∀ k (h : k < (encode (.vCmpxLtF32 (.vopc (.vgpr 0) 1))).length),
      Memory.read launchedState.mem (launchedState.pc + k) = some (encode (.vCmpxLtF32 (.vopc (.vgpr 0) 1)))[k] := by
  decide +kernel

theorem test_witness_TableWordRunsFromReset : decodeTableWord 32 0x7C220300 = some (.vCmpxLtF32 (.vopc (.vgpr 0) 1)) ∧
    Launched { launchedState with pc := 0x10C } ∧
    decode launchedState.config (tableBytes 32 0x7C220300) = .ok (.vCmpxLtF32 (.vopc (.vgpr 0) 1), bytesOfWord 0#32) :=
  ⟨by decide +kernel, launchedState_end_launched, by decide +kernel⟩

theorem test_witness_SinglePrecisionCompareCompletes :
    let i : Instr := .vCmpLtF32 (.vopc (.vgpr 0) 1)
    (i.opcode < 128 ∧ i.opcode / 32 % 2 = 0) ∧ (Executes i twoLanes ∧ twoLanes.config.signalMode = .flag) ∧
    Executes i oneLaneFault ∧ ¬ someLaneSignals oneLaneFault (laneSignals i oneLaneFault) := by
  refine ⟨by decide +kernel, by decide +kernel, by decide +kernel, ?_⟩
  rintro ⟨L, hL, hx, hs⟩
  have h : ∀ L < 64, ¬ (oneLaneFault.execMask.getLsbD L = true ∧
      laneSignals (.vCmpLtF32 (.vopc (.vgpr 0) 1)) oneLaneFault L = true) := by decide +kernel
  exact h L hL ⟨hx, hs⟩

theorem test_witness_DoublePrecisionCompareCompletes :
    let i : Instr := .vCmpsxTF64 (.vop3 (.pair 102) ⟨true, true, true, true⟩ (.vgpr 254) (.sgpr 102))
    (i.opcode < 128 ∧ i.opcode / 32 % 2 = 1) ∧ Executes i twoLanes ∧ twoLanes.config.signalMode = .flag := by decide +kernel

theorem test_witness_Integer32CompareCompletes :
    let i : Instr := .vCmpxTU32 (.vopc (.inlineInt 64) 255)
    128 ≤ i.opcode ∧ i.opcode % 16 < 8 ∧ i.opcode / 32 % 2 = 0 ∧ Executes i twoLanesFault := by decide +kernel

theorem test_witness_Integer64CompareCompletes :
    let i : Instr := .vCmpFI64 (.vop3 .vcc .off .vccLo (.vgpr 254))
    128 ≤ i.opcode ∧ i.opcode % 16 < 8 ∧ i.opcode / 32 % 2 = 1 ∧ Executes i twoLanesFault := by decide +kernel

theorem test_witness_ClassTestCompletes :
    let i : Instr := .vCmpxClassF64 (.vop3 (.pair 0) .off (.vgpr 0) (.inlineInt (-16)))
    isClassOp i.opcode ∧ Executes i twoLanesFault ∧ isClassOp (Instr.opcode (.vCmpClassF32 (.vopc .execLo 0))) ∧
    Executes (.vCmpClassF32 (.vopc .execLo 0)) twoLanesFault := by decide +kernel

theorem test_witness_SignalFaultsAfterWrites :
    let i : Instr := .vCmpLtF32 (.vopc (.vgpr 0) 1)
    Executes i twoLanesFault ∧ twoLanesFault.config.signalMode = .fault ∧
    someLaneSignals twoLanesFault (laneSignals i twoLanesFault) :=
  ⟨by decide +kernel, by decide +kernel, 1, by decide +kernel, by decide +kernel, by decide +kernel⟩

theorem test_witness_IllFormedInstructionRefused :
    Instr.check twoLanes.config (.vCmpLtI64 (.vopc (.vgpr 255) 0)) = some .vgprPairOutOfRange := by decide +kernel

theorem test_witness_PcOverflowRefused :
    let s : State := { twoLanes with pc := 252, config := { Config.default with pcWidth := some 8 } }
    let i : Instr := .vCmpLtF32 (.vopc (.vgpr 0) 1)
    i.WellFormed s.config ∧ s.config.pcWidth = some 8 ∧ 2 ^ 8 ≤ s.pc + i.form.length := by decide +kernel

theorem test_witness_OnlyFloatComparesSignal :
    (∃ t, step (signalState.withFetchWord 32 0x7C7A0500) = .fault (.signal t)) ∧
    128 ≤ Instr.opcode (.vCmpClassF32 (.vopc (.vgpr 1) 0)) ∧
    (∃ t, exec (.vCmpClassF32 (.vopc (.vgpr 1) 0)) twoLanes = .next t) ∧
    exec (.vCmpClassF32 (.vopc (.vgpr 1) 0)) missingLane = .fault .unwrittenRegister :=
  ⟨signal_of_isSignal (by decide +kernel), by decide, next_of_isNext (by decide +kernel),
    unwritten_of_isUnwritten (by decide +kernel)⟩

theorem test_witness_UnwrittenRegisterFaults :
    let i : Instr := .vCmpEqU32 (.vopc (.vgpr 0) 1)
    i.WellFormed missingLane.config ∧ pcFits missingLane.config (missingLane.pc + i.form.length) = true ∧ (1 : Nat) < 64 ∧
    missingLane.execMask.getLsbD 1 = true ∧ operandsHold (opcodeWidth i.opcode) missingLane i.form 1 = false ∧
    ¬ Readable i missingLane ∧ Readable i { missingLane with execMask := 1#64 } := by decide +kernel

theorem test_witness_RegistersHoldOnceWritten :
    (∃ t, Wrote (.vCmpEqU32 (.vop3 (.pair 102) .off (.vgpr 0) (.vgpr 1))) { missingLane with execMask := 1#64 } t) ∧
    (∃ t, Wrote (.vCmpEqU32 (.vopc (.vgpr 0) 1)) { missingLane with execMask := 1#64 } t) :=
  ⟨wrote_of_isNext (by decide +kernel), wrote_of_isNext (by decide +kernel)⟩

theorem test_witness_ExecutingLaneBitIsTruthValue :
    (∃ t, Wrote (.vCmpLtF32 (.vop3 (.pair 0) .off (.vgpr 0) (.vgpr 1))) twoLanes t) ∧
    (∃ t, Wrote (.vCmpLtF32 (.vopc (.vgpr 0) 1)) twoLanesFault t) ∧ twoLanes.execMask.getLsbD 1 = true :=
  ⟨wrote_of_isNext (by decide +kernel), (signal_of_isSignal (by decide +kernel)).imp fun _ h => .inr h, by decide +kernel⟩

theorem test_witness_IdleLaneBitIsZero :
    (∃ t, Wrote (.vCmpTI32 (.vopc (.vgpr 0) 1)) twoLanes t) ∧ (63 : Nat) < 64 ∧ twoLanes.execMask.getLsbD 63 = false :=
  ⟨wrote_of_isNext (by decide +kernel), by decide, by decide +kernel⟩

theorem test_witness_DestinationWriteIsWholeMask :
    (∃ t, Wrote (.vCmpLtF32 (.vopc (.vgpr 0) 1)) twoLanes t) ∧
    (∃ t, Wrote (.vCmpLtF32 (.vop3 .vcc .off (.vgpr 0) (.vgpr 1))) twoLanes t) ∧
    (∃ t, Wrote (.vCmpLtF32 (.vop3 (.pair 102) .off (.vgpr 0) (.vgpr 1))) twoLanes t) ∧
    ∀ L, L < 64 → (1#64).getLsbD L =
      (twoLanes.execMask.getLsbD L && laneResult (.vCmpLtF32 (.vopc (.vgpr 0) 1)) twoLanes L) :=
  ⟨wrote_of_isNext (by decide +kernel), wrote_of_isNext (by decide +kernel), wrote_of_isNext (by decide +kernel),
    by decide +kernel⟩

theorem test_witness_ExecWrittenByXFormsOnly :
    (∃ t, Wrote (.vCmpxLtF32 (.vopc (.vgpr 0) 1)) twoLanes t) ∧ (∃ t, Wrote (.vCmpLtF32 (.vopc (.vgpr 0) 1)) twoLanes t) :=
  ⟨wrote_of_isNext (by decide +kernel), wrote_of_isNext (by decide +kernel)⟩

theorem launchedState_runs : ∃ t, Reaches 2 launchedState t :=
  next_of_isNext (show isNext (Host.Core.run Sys2Proof.core 2 launchedState) = true by decide +kernel)

theorem test_witness_ExecOnlyLosesLanes : ∃ t, Reaches 2 launchedState t := launchedState_runs

theorem test_witness_RunKeepsUnwrittenState : ∃ t, Reaches 2 launchedState t := launchedState_runs

theorem test_witness_SignalIsSticky : (∃ t, step launchedState = .next t) ∧
    decode launchedState.config launchedState.fetchBytes =
      .ok (.vCmpxLtF32 (.vopc (.vgpr 0) 1), bytesOfWord 0xD10E0004#32) :=
  ⟨next_of_isNext (by decide +kernel), by decide +kernel⟩

theorem test_witness_NoActiveLaneWritesZero :
    let s : State := { missingLane with execMask := 0#64 }
    let i : Instr := .vCmpxTF32 (.vop3 (.pair 0) .off (.sgpr 9) (.vgpr 1))
    i.WellFormed s.config ∧ pcFits s.config (s.pc + i.form.length) = true ∧ s.execMask = 0#64 := by decide +kernel

theorem test_witness_ConstantOperations :
    (∃ t, Wrote (.vCmpxFU64 (.vopc (.vgpr 0) 2)) twoLanes t) ∧ Instr.opcode (.vCmpxFU64 (.vopc (.vgpr 0) 2)) % 16 = 0 ∧
    (∃ t, Wrote (.vCmpTF32 (.vopc (.vgpr 0) 1)) twoLanes t) ∧ Instr.opcode (.vCmpTF32 (.vopc (.vgpr 0) 1)) % 16 = 15 ∧
    (∃ t, Wrote (.vCmpxTI32 (.vopc (.vgpr 0) 1)) twoLanes t) ∧ Instr.opcode (.vCmpxTI32 (.vopc (.vgpr 0) 1)) % 16 = 7 :=
  ⟨wrote_of_isNext (by decide +kernel), by decide, wrote_of_isNext (by decide +kernel), by decide,
    wrote_of_isNext (by decide +kernel), by decide⟩

theorem test_witness_VopcAndVop3FormsAgree :
    let i : Instr := .vCmpLtF32 (.vopc (.vgpr 0) 1)
    let j : Instr := .vCmpLtF32 (.vop3 .vcc .off (.vgpr 0) (.vgpr 1))
    (i.opcode = j.opcode ∧ pcFits twoLanes.config (twoLanes.pc + 8) = true) ∧ (∃ t, exec i twoLanes = .next t) ∧
    (∃ t, exec i twoLanesFault = .fault (.signal t)) ∧
    exec i missingLane = .fault .unwrittenRegister ∧
    exec (.vCmpLtI64 (.vopc (.vgpr 255) 0)) twoLanes = .refused (.rejected .vgprPairOutOfRange) :=
  ⟨by decide +kernel, next_of_isNext (by decide +kernel), signal_of_isSignal (by decide +kernel),
    unwritten_of_isUnwritten (by decide +kernel), rfl⟩

theorem test_witness_EqualityIgnoresSignedness :
    let i : Instr := .vCmpxLgI64 (.vopc (.vgpr 0) 2)
    let j : Instr := .vCmpxLgU64 (.vopc (.vgpr 0) 2)
    128 ≤ i.opcode ∧ i.opcode < 192 ∧ i.opcode % 16 = 5 ∧ j.opcode = i.opcode + 64 ∧ j.form = i.form := by decide +kernel

theorem test_witness_ComplementaryOperations :
    let i : Instr := .vCmpOF32 (.vopc (.vgpr 0) 1)
    let j : Instr := .vCmpUF32 (.vopc (.vgpr 0) 1)
    (i.opcode < 128 ∧ i.opcode / 16 = j.opcode / 16 ∧ i.opcode % 16 + j.opcode % 16 = 15 ∧ i.form = j.form ∧
      twoLanes.config.uReading = .unordered) ∧ (∃ t, Wrote i twoLanes t) ∧ (∃ u, Wrote j twoLanes u) :=
  ⟨by decide +kernel, wrote_of_isNext (by decide +kernel), wrote_of_isNext (by decide +kernel)⟩

theorem test_witness_ModifiersActOnSignAlone : (31 : Nat) < 32 ∧ (63 : Nat) < 64 := by decide

theorem test_witness_InfinitiesBoundTheOrder : isNaN binary32 0x7F800000#32 = false ∧ isNaN binary32 0xFF800000#32 = false ∧
    isNaN binary64 0x7FF0000000000000#64 = false ∧ isNaN binary64 0xFFF0000000000000#64 = false := by decide +kernel

theorem test_witness_DenormModeTouchesFloatComparesOnly :
    128 ≤ Instr.opcode (.vCmpClassF32 (.vopc (.vgpr 1) 0)) ∧ ∃ t, exec (.vCmpClassF32 (.vopc (.vgpr 1) 0)) twoLanes = .next t :=
  ⟨by decide, next_of_isNext (by decide +kernel)⟩

/-- `launchedState` is a launch: the pc at the base, SIGNAL 0. -/
theorem launchedState_launch : Launch launchedState :=
  ⟨by decide +kernel, by decide +kernel, by decide +kernel, by decide +kernel⟩

theorem test_witness_LaunchRunsStayLaunched : Launch launchedState ∧ ∃ t, Reaches 2 launchedState t :=
  ⟨launchedState_launch, launchedState_runs⟩

theorem test_witness_SignalRecordsThisRun : Launch launchedState ∧ ∃ t, Reaches 2 launchedState t :=
  ⟨launchedState_launch, launchedState_runs⟩

theorem test_witness_LaunchedKeptByStep : Launched launchedState ∧ ∃ t, step launchedState = .next t :=
  ⟨launchedState_launched, next_of_isNext (by decide +kernel)⟩

theorem test_witness_LaunchedMemoryIsTheProgram : Launched launchedState := launchedState_launched

theorem launchedState_allHold : AllHold launchedState :=
  ⟨by decide +kernel, by
    have h : ∀ n < 256, ∀ L < 64, launchedState.vgprHolds n L = true := by decide +kernel
    exact fun n L hn hL => h n hn L hL, by decide +kernel, by decide +kernel, by decide +kernel⟩

theorem test_witness_AllHoldKeptByStep : AllHold launchedState ∧ ∃ t, step launchedState = .next t :=
  ⟨launchedState_allHold, next_of_isNext (by decide +kernel)⟩

theorem test_witness_RunTerminates : Launched launchedState ∧ launchedState.pc = launchedState.programBase ∧
    ∃ t, Reaches 2 launchedState t :=
  ⟨launchedState_launched, rfl, launchedState_runs⟩

theorem test_witness_RunEndsAtProgramEnd :
    (launchedState.programBase % 4 = 0 ∧ launchedState.pc % 4 = 0 ∧ ¬ Final launchedState) ∧
    Final { launchedState with pc := 0x10C } := by decide +kernel

/-- A program of the first `n` bytes of two words at address 0x100. -/
def cutProgram (n : Nat) (lo hi : Word) : State :=
  { launchedState with mem := Memory.load [] 0x100 (([lo, hi].flatMap bytesOfWord).take n) }

/-- An instruction listed at address 0, below PROGRAM_BASE = 0x100, with the pc at it. -/
def belowBase : State := { launchedState with mem := Memory.load [] 0 (bytesOfWord 0x7C020300#32), pc := 0 }

/-- The addresses before, beyond and in the last bytes of a program, also with bytes listed there, and under a GCN 1.2 map. -/
theorem test_witness_FetchOutsideProgramRefused_first_word : ∀ s ∈ [belowBase, { launchedState with pc := 0xFC },
    { launchedState with pc := 0x110 }, { launchedState with pc := 0x110, config := mapped12 }, cutProgram 1 0x7C020300#32 0#32,
    cutProgram 3 0x7C020300#32 0#32],
    (s.config.version = .v1_2 → s.config.gcn12Map ≠ []) ∧ s.programBase % 4 = 0 ∧ s.pc % 4 = 0 ∧ s.pc ≠ s.programEnd ∧
      (s.pc < s.programBase ∨ s.programEnd < s.pc + 4) := by decide +kernel

theorem test_witness_FetchOutsideProgramRefused_second_word : ∀ c ∈ [(4, 0xD0020004#32), (7, 0x7C0202FF#32)],
    let s := cutProgram c.1 c.2 0x00020300#32
    (s.config.version = .v1_2 → s.config.gcn12Map ≠ []) ∧ s.programBase % 4 = 0 ∧ s.pc % 4 = 0 ∧ s.programBase ≤ s.pc ∧
      s.pc + 4 ≤ s.programEnd ∧ s.programEnd < s.pc + 8 ∧ Memory.readRun s.mem s.pc 4 = bytesOfWord c.2 ∧
      wantsSecondWord c.2 := by decide +kernel

theorem test_step_listed_below_base : step belowBase = .refused (.rejected .fetchOutsideProgram) := rfl

/-- `launchedState` with lane 0 executing only. -/
def laneZero : State := { launchedState with execMask := 1#64 }

/-- VGPRs that agree with `laneZero`'s in lane 0 and hold other values in lane 1. -/
def otherVgprs : Vector (Vector Word 64) 256 := lanesOf [(0, [(0, 0x3F800000#32), (1, 7#32)]), (1, [(0, 0x40000000#32)])]

/-- The VGPRs hold a value in lane 0 only. -/
def otherHas : Vector LaneMask 256 := Vector.replicate 256 1#64

theorem test_witness_DisabledLanesUnobserved :
    (∀ n L, L < 64 → laneZero.execMask.getLsbD L = true →
      State.vgpr { laneZero with vgprs := otherVgprs, vgprHas := otherHas } n L = laneZero.vgpr n L ∧
      State.vgprHolds { laneZero with vgprs := otherVgprs, vgprHas := otherHas } n L = laneZero.vgprHolds n L) ∧
    (∃ t, Reaches 2 laneZero t) ∧
    State.vgpr { laneZero with vgprs := otherVgprs, vgprHas := otherHas } 1 1 ≠ laneZero.vgpr 1 1 ∧
    State.vgprHolds { laneZero with vgprs := otherVgprs, vgprHas := otherHas } 1 1 ≠ laneZero.vgprHolds 1 1 := by
  refine ⟨?_, next_of_isNext (show isNext (Host.Core.run Sys2Proof.core 2 laneZero) = true by decide +kernel), by decide +kernel,
    by decide +kernel⟩
  intro n L hL hx
  have h0 : ∀ L < 64, laneZero.execMask.getLsbD L = true → L = 0 := by decide +kernel
  have hn : ∀ n < 256, State.vgpr { laneZero with vgprs := otherVgprs, vgprHas := otherHas } n 0 = laneZero.vgpr n 0 ∧
      State.vgprHolds { laneZero with vgprs := otherVgprs, vgprHas := otherHas } n 0 = laneZero.vgprHolds n 0 := by decide +kernel
  rw [h0 L hL hx]
  by_cases h : n < 256
  · exact hn n h
  · simp [State.vgpr, State.vgprHolds, h]

/-! GCN 1.2 (30_encoding.md R73) and the steps that fetch nothing (20_memory.md R54, 70_reset_and_hazards.md R544). -/

theorem test_decode_gcn12 : decode mapped12 ([0xD3FF0004#32, 0x00020500#32].flatMap bytesOfWord) =
    .ok (.vCmpNltF64 (.vop3 (.pair 4) .off (.vgpr 0) (.vgpr 2)), []) := by decide +kernel

theorem test_decode_gcn12_clamp : labelOf mapped12 [0xD3FF8004#32, 0x00020500#32] = some .unsupportedModifier := by decide +kernel

theorem test_step_run_ended : step State.reset = .refused .runEnded := rfl

theorem test_step_misaligned_base : step { launchedState with programBase := 0x102 } = .refused .misalignedBase := rfl

theorem test_step_misaligned_pc : step { launchedState with pc := 0x102 } = .refused .misalignedPc := rfl

end Sys2Proof.Tests
end

section
/-! Proofs about the encoding: what the opcode map, the operand codes and the decoder answer, and the statements on the fields and
opcode numbers of the two encodings (30_encoding.md R70, R78). -/

namespace Sys2Proof

/-! The opcode map (30_encoding.md R93). -/

/-- Every instruction is built by the row of its own opcode: the lemmas of `Laws.OpcodeRowOf` for all instructions at once. -/
theorem findRow_opcode (i : Instr) : Laws.OpcodeRowOf.Statement i :=
  match i with
  | .vCmpFF32 form => Laws.OpcodeRowOf.vCmpFF32 form
  | .vCmpLtF32 form => Laws.OpcodeRowOf.vCmpLtF32 form
  | .vCmpEqF32 form => Laws.OpcodeRowOf.vCmpEqF32 form
  | .vCmpLeF32 form => Laws.OpcodeRowOf.vCmpLeF32 form
  | .vCmpGtF32 form => Laws.OpcodeRowOf.vCmpGtF32 form
  | .vCmpLgF32 form => Laws.OpcodeRowOf.vCmpLgF32 form
  | .vCmpGeF32 form => Laws.OpcodeRowOf.vCmpGeF32 form
  | .vCmpOF32 form => Laws.OpcodeRowOf.vCmpOF32 form
  | .vCmpUF32 form => Laws.OpcodeRowOf.vCmpUF32 form
  | .vCmpNgeF32 form => Laws.OpcodeRowOf.vCmpNgeF32 form
  | .vCmpNlgF32 form => Laws.OpcodeRowOf.vCmpNlgF32 form
  | .vCmpNgtF32 form => Laws.OpcodeRowOf.vCmpNgtF32 form
  | .vCmpNleF32 form => Laws.OpcodeRowOf.vCmpNleF32 form
  | .vCmpNeqF32 form => Laws.OpcodeRowOf.vCmpNeqF32 form
  | .vCmpNltF32 form => Laws.OpcodeRowOf.vCmpNltF32 form
  | .vCmpTF32 form => Laws.OpcodeRowOf.vCmpTF32 form
  | .vCmpxFF32 form => Laws.OpcodeRowOf.vCmpxFF32 form
  | .vCmpxLtF32 form => Laws.OpcodeRowOf.vCmpxLtF32 form
  | .vCmpxEqF32 form => Laws.OpcodeRowOf.vCmpxEqF32 form
  | .vCmpxLeF32 form => Laws.OpcodeRowOf.vCmpxLeF32 form
  | .vCmpxGtF32 form => Laws.OpcodeRowOf.vCmpxGtF32 form
  | .vCmpxLgF32 form => Laws.OpcodeRowOf.vCmpxLgF32 form
  | .vCmpxGeF32 form => Laws.OpcodeRowOf.vCmpxGeF32 form
  | .vCmpxOF32 form => Laws.OpcodeRowOf.vCmpxOF32 form
  | .vCmpxUF32 form => Laws.OpcodeRowOf.vCmpxUF32 form
  | .vCmpxNgeF32 form => Laws.OpcodeRowOf.vCmpxNgeF32 form
  | .vCmpxNlgF32 form => Laws.OpcodeRowOf.vCmpxNlgF32 form
  | .vCmpxNgtF32 form => Laws.OpcodeRowOf.vCmpxNgtF32 form
  | .vCmpxNleF32 form => Laws.OpcodeRowOf.vCmpxNleF32 form
  | .vCmpxNeqF32 form => Laws.OpcodeRowOf.vCmpxNeqF32 form
  | .vCmpxNltF32 form => Laws.OpcodeRowOf.vCmpxNltF32 form
  | .vCmpxTF32 form => Laws.OpcodeRowOf.vCmpxTF32 form
  | .vCmpFF64 form => Laws.OpcodeRowOf.vCmpFF64 form
  | .vCmpLtF64 form => Laws.OpcodeRowOf.vCmpLtF64 form
  | .vCmpEqF64 form => Laws.OpcodeRowOf.vCmpEqF64 form
  | .vCmpLeF64 form => Laws.OpcodeRowOf.vCmpLeF64 form
  | .vCmpGtF64 form => Laws.OpcodeRowOf.vCmpGtF64 form
  | .vCmpLgF64 form => Laws.OpcodeRowOf.vCmpLgF64 form
  | .vCmpGeF64 form => Laws.OpcodeRowOf.vCmpGeF64 form
  | .vCmpOF64 form => Laws.OpcodeRowOf.vCmpOF64 form
  | .vCmpUF64 form => Laws.OpcodeRowOf.vCmpUF64 form
  | .vCmpNgeF64 form => Laws.OpcodeRowOf.vCmpNgeF64 form
  | .vCmpNlgF64 form => Laws.OpcodeRowOf.vCmpNlgF64 form
  | .vCmpNgtF64 form => Laws.OpcodeRowOf.vCmpNgtF64 form
  | .vCmpNleF64 form => Laws.OpcodeRowOf.vCmpNleF64 form
  | .vCmpNeqF64 form => Laws.OpcodeRowOf.vCmpNeqF64 form
  | .vCmpNltF64 form => Laws.OpcodeRowOf.vCmpNltF64 form
  | .vCmpTF64 form => Laws.OpcodeRowOf.vCmpTF64 form
  | .vCmpxFF64 form => Laws.OpcodeRowOf.vCmpxFF64 form
  | .vCmpxLtF64 form => Laws.OpcodeRowOf.vCmpxLtF64 form
  | .vCmpxEqF64 form => Laws.OpcodeRowOf.vCmpxEqF64 form
  | .vCmpxLeF64 form => Laws.OpcodeRowOf.vCmpxLeF64 form
  | .vCmpxGtF64 form => Laws.OpcodeRowOf.vCmpxGtF64 form
  | .vCmpxLgF64 form => Laws.OpcodeRowOf.vCmpxLgF64 form
  | .vCmpxGeF64 form => Laws.OpcodeRowOf.vCmpxGeF64 form
  | .vCmpxOF64 form => Laws.OpcodeRowOf.vCmpxOF64 form
  | .vCmpxUF64 form => Laws.OpcodeRowOf.vCmpxUF64 form
  | .vCmpxNgeF64 form => Laws.OpcodeRowOf.vCmpxNgeF64 form
  | .vCmpxNlgF64 form => Laws.OpcodeRowOf.vCmpxNlgF64 form
  | .vCmpxNgtF64 form => Laws.OpcodeRowOf.vCmpxNgtF64 form
  | .vCmpxNleF64 form => Laws.OpcodeRowOf.vCmpxNleF64 form
  | .vCmpxNeqF64 form => Laws.OpcodeRowOf.vCmpxNeqF64 form
  | .vCmpxNltF64 form => Laws.OpcodeRowOf.vCmpxNltF64 form
  | .vCmpxTF64 form => Laws.OpcodeRowOf.vCmpxTF64 form
  | .vCmpsFF32 form => Laws.OpcodeRowOf.vCmpsFF32 form
  | .vCmpsLtF32 form => Laws.OpcodeRowOf.vCmpsLtF32 form
  | .vCmpsEqF32 form => Laws.OpcodeRowOf.vCmpsEqF32 form
  | .vCmpsLeF32 form => Laws.OpcodeRowOf.vCmpsLeF32 form
  | .vCmpsGtF32 form => Laws.OpcodeRowOf.vCmpsGtF32 form
  | .vCmpsLgF32 form => Laws.OpcodeRowOf.vCmpsLgF32 form
  | .vCmpsGeF32 form => Laws.OpcodeRowOf.vCmpsGeF32 form
  | .vCmpsOF32 form => Laws.OpcodeRowOf.vCmpsOF32 form
  | .vCmpsUF32 form => Laws.OpcodeRowOf.vCmpsUF32 form
  | .vCmpsNgeF32 form => Laws.OpcodeRowOf.vCmpsNgeF32 form
  | .vCmpsNlgF32 form => Laws.OpcodeRowOf.vCmpsNlgF32 form
  | .vCmpsNgtF32 form => Laws.OpcodeRowOf.vCmpsNgtF32 form
  | .vCmpsNleF32 form => Laws.OpcodeRowOf.vCmpsNleF32 form
  | .vCmpsNeqF32 form => Laws.OpcodeRowOf.vCmpsNeqF32 form
  | .vCmpsNltF32 form => Laws.OpcodeRowOf.vCmpsNltF32 form
  | .vCmpsTF32 form => Laws.OpcodeRowOf.vCmpsTF32 form
  | .vCmpsxFF32 form => Laws.OpcodeRowOf.vCmpsxFF32 form
  | .vCmpsxLtF32 form => Laws.OpcodeRowOf.vCmpsxLtF32 form
  | .vCmpsxEqF32 form => Laws.OpcodeRowOf.vCmpsxEqF32 form
  | .vCmpsxLeF32 form => Laws.OpcodeRowOf.vCmpsxLeF32 form
  | .vCmpsxGtF32 form => Laws.OpcodeRowOf.vCmpsxGtF32 form
  | .vCmpsxLgF32 form => Laws.OpcodeRowOf.vCmpsxLgF32 form
  | .vCmpsxGeF32 form => Laws.OpcodeRowOf.vCmpsxGeF32 form
  | .vCmpsxOF32 form => Laws.OpcodeRowOf.vCmpsxOF32 form
  | .vCmpsxUF32 form => Laws.OpcodeRowOf.vCmpsxUF32 form
  | .vCmpsxNgeF32 form => Laws.OpcodeRowOf.vCmpsxNgeF32 form
  | .vCmpsxNlgF32 form => Laws.OpcodeRowOf.vCmpsxNlgF32 form
  | .vCmpsxNgtF32 form => Laws.OpcodeRowOf.vCmpsxNgtF32 form
  | .vCmpsxNleF32 form => Laws.OpcodeRowOf.vCmpsxNleF32 form
  | .vCmpsxNeqF32 form => Laws.OpcodeRowOf.vCmpsxNeqF32 form
  | .vCmpsxNltF32 form => Laws.OpcodeRowOf.vCmpsxNltF32 form
  | .vCmpsxTF32 form => Laws.OpcodeRowOf.vCmpsxTF32 form
  | .vCmpsFF64 form => Laws.OpcodeRowOf.vCmpsFF64 form
  | .vCmpsLtF64 form => Laws.OpcodeRowOf.vCmpsLtF64 form
  | .vCmpsEqF64 form => Laws.OpcodeRowOf.vCmpsEqF64 form
  | .vCmpsLeF64 form => Laws.OpcodeRowOf.vCmpsLeF64 form
  | .vCmpsGtF64 form => Laws.OpcodeRowOf.vCmpsGtF64 form
  | .vCmpsLgF64 form => Laws.OpcodeRowOf.vCmpsLgF64 form
  | .vCmpsGeF64 form => Laws.OpcodeRowOf.vCmpsGeF64 form
  | .vCmpsOF64 form => Laws.OpcodeRowOf.vCmpsOF64 form
  | .vCmpsUF64 form => Laws.OpcodeRowOf.vCmpsUF64 form
  | .vCmpsNgeF64 form => Laws.OpcodeRowOf.vCmpsNgeF64 form
  | .vCmpsNlgF64 form => Laws.OpcodeRowOf.vCmpsNlgF64 form
  | .vCmpsNgtF64 form => Laws.OpcodeRowOf.vCmpsNgtF64 form
  | .vCmpsNleF64 form => Laws.OpcodeRowOf.vCmpsNleF64 form
  | .vCmpsNeqF64 form => Laws.OpcodeRowOf.vCmpsNeqF64 form
  | .vCmpsNltF64 form => Laws.OpcodeRowOf.vCmpsNltF64 form
  | .vCmpsTF64 form => Laws.OpcodeRowOf.vCmpsTF64 form
  | .vCmpsxFF64 form => Laws.OpcodeRowOf.vCmpsxFF64 form
  | .vCmpsxLtF64 form => Laws.OpcodeRowOf.vCmpsxLtF64 form
  | .vCmpsxEqF64 form => Laws.OpcodeRowOf.vCmpsxEqF64 form
  | .vCmpsxLeF64 form => Laws.OpcodeRowOf.vCmpsxLeF64 form
  | .vCmpsxGtF64 form => Laws.OpcodeRowOf.vCmpsxGtF64 form
  | .vCmpsxLgF64 form => Laws.OpcodeRowOf.vCmpsxLgF64 form
  | .vCmpsxGeF64 form => Laws.OpcodeRowOf.vCmpsxGeF64 form
  | .vCmpsxOF64 form => Laws.OpcodeRowOf.vCmpsxOF64 form
  | .vCmpsxUF64 form => Laws.OpcodeRowOf.vCmpsxUF64 form
  | .vCmpsxNgeF64 form => Laws.OpcodeRowOf.vCmpsxNgeF64 form
  | .vCmpsxNlgF64 form => Laws.OpcodeRowOf.vCmpsxNlgF64 form
  | .vCmpsxNgtF64 form => Laws.OpcodeRowOf.vCmpsxNgtF64 form
  | .vCmpsxNleF64 form => Laws.OpcodeRowOf.vCmpsxNleF64 form
  | .vCmpsxNeqF64 form => Laws.OpcodeRowOf.vCmpsxNeqF64 form
  | .vCmpsxNltF64 form => Laws.OpcodeRowOf.vCmpsxNltF64 form
  | .vCmpsxTF64 form => Laws.OpcodeRowOf.vCmpsxTF64 form
  | .vCmpFI32 form => Laws.OpcodeRowOf.vCmpFI32 form
  | .vCmpLtI32 form => Laws.OpcodeRowOf.vCmpLtI32 form
  | .vCmpEqI32 form => Laws.OpcodeRowOf.vCmpEqI32 form
  | .vCmpLeI32 form => Laws.OpcodeRowOf.vCmpLeI32 form
  | .vCmpGtI32 form => Laws.OpcodeRowOf.vCmpGtI32 form
  | .vCmpLgI32 form => Laws.OpcodeRowOf.vCmpLgI32 form
  | .vCmpGeI32 form => Laws.OpcodeRowOf.vCmpGeI32 form
  | .vCmpTI32 form => Laws.OpcodeRowOf.vCmpTI32 form
  | .vCmpClassF32 form => Laws.OpcodeRowOf.vCmpClassF32 form
  | .vCmpxFI32 form => Laws.OpcodeRowOf.vCmpxFI32 form
  | .vCmpxLtI32 form => Laws.OpcodeRowOf.vCmpxLtI32 form
  | .vCmpxEqI32 form => Laws.OpcodeRowOf.vCmpxEqI32 form
  | .vCmpxLeI32 form => Laws.OpcodeRowOf.vCmpxLeI32 form
  | .vCmpxGtI32 form => Laws.OpcodeRowOf.vCmpxGtI32 form
  | .vCmpxLgI32 form => Laws.OpcodeRowOf.vCmpxLgI32 form
  | .vCmpxGeI32 form => Laws.OpcodeRowOf.vCmpxGeI32 form
  | .vCmpxTI32 form => Laws.OpcodeRowOf.vCmpxTI32 form
  | .vCmpxClassF32 form => Laws.OpcodeRowOf.vCmpxClassF32 form
  | .vCmpFI64 form => Laws.OpcodeRowOf.vCmpFI64 form
  | .vCmpLtI64 form => Laws.OpcodeRowOf.vCmpLtI64 form
  | .vCmpEqI64 form => Laws.OpcodeRowOf.vCmpEqI64 form
  | .vCmpLeI64 form => Laws.OpcodeRowOf.vCmpLeI64 form
  | .vCmpGtI64 form => Laws.OpcodeRowOf.vCmpGtI64 form
  | .vCmpLgI64 form => Laws.OpcodeRowOf.vCmpLgI64 form
  | .vCmpGeI64 form => Laws.OpcodeRowOf.vCmpGeI64 form
  | .vCmpTI64 form => Laws.OpcodeRowOf.vCmpTI64 form
  | .vCmpClassF64 form => Laws.OpcodeRowOf.vCmpClassF64 form
  | .vCmpxFI64 form => Laws.OpcodeRowOf.vCmpxFI64 form
  | .vCmpxLtI64 form => Laws.OpcodeRowOf.vCmpxLtI64 form
  | .vCmpxEqI64 form => Laws.OpcodeRowOf.vCmpxEqI64 form
  | .vCmpxLeI64 form => Laws.OpcodeRowOf.vCmpxLeI64 form
  | .vCmpxGtI64 form => Laws.OpcodeRowOf.vCmpxGtI64 form
  | .vCmpxLgI64 form => Laws.OpcodeRowOf.vCmpxLgI64 form
  | .vCmpxGeI64 form => Laws.OpcodeRowOf.vCmpxGeI64 form
  | .vCmpxTI64 form => Laws.OpcodeRowOf.vCmpxTI64 form
  | .vCmpxClassF64 form => Laws.OpcodeRowOf.vCmpxClassF64 form
  | .vCmpFU32 form => Laws.OpcodeRowOf.vCmpFU32 form
  | .vCmpLtU32 form => Laws.OpcodeRowOf.vCmpLtU32 form
  | .vCmpEqU32 form => Laws.OpcodeRowOf.vCmpEqU32 form
  | .vCmpLeU32 form => Laws.OpcodeRowOf.vCmpLeU32 form
  | .vCmpGtU32 form => Laws.OpcodeRowOf.vCmpGtU32 form
  | .vCmpLgU32 form => Laws.OpcodeRowOf.vCmpLgU32 form
  | .vCmpGeU32 form => Laws.OpcodeRowOf.vCmpGeU32 form
  | .vCmpTU32 form => Laws.OpcodeRowOf.vCmpTU32 form
  | .vCmpxFU32 form => Laws.OpcodeRowOf.vCmpxFU32 form
  | .vCmpxLtU32 form => Laws.OpcodeRowOf.vCmpxLtU32 form
  | .vCmpxEqU32 form => Laws.OpcodeRowOf.vCmpxEqU32 form
  | .vCmpxLeU32 form => Laws.OpcodeRowOf.vCmpxLeU32 form
  | .vCmpxGtU32 form => Laws.OpcodeRowOf.vCmpxGtU32 form
  | .vCmpxLgU32 form => Laws.OpcodeRowOf.vCmpxLgU32 form
  | .vCmpxGeU32 form => Laws.OpcodeRowOf.vCmpxGeU32 form
  | .vCmpxTU32 form => Laws.OpcodeRowOf.vCmpxTU32 form
  | .vCmpFU64 form => Laws.OpcodeRowOf.vCmpFU64 form
  | .vCmpLtU64 form => Laws.OpcodeRowOf.vCmpLtU64 form
  | .vCmpEqU64 form => Laws.OpcodeRowOf.vCmpEqU64 form
  | .vCmpLeU64 form => Laws.OpcodeRowOf.vCmpLeU64 form
  | .vCmpGtU64 form => Laws.OpcodeRowOf.vCmpGtU64 form
  | .vCmpLgU64 form => Laws.OpcodeRowOf.vCmpLgU64 form
  | .vCmpGeU64 form => Laws.OpcodeRowOf.vCmpGeU64 form
  | .vCmpTU64 form => Laws.OpcodeRowOf.vCmpTU64 form
  | .vCmpxFU64 form => Laws.OpcodeRowOf.vCmpxFU64 form
  | .vCmpxLtU64 form => Laws.OpcodeRowOf.vCmpxLtU64 form
  | .vCmpxEqU64 form => Laws.OpcodeRowOf.vCmpxEqU64 form
  | .vCmpxLeU64 form => Laws.OpcodeRowOf.vCmpxLeU64 form
  | .vCmpxGtU64 form => Laws.OpcodeRowOf.vCmpxGtU64 form
  | .vCmpxLgU64 form => Laws.OpcodeRowOf.vCmpxLgU64 form
  | .vCmpxGeU64 form => Laws.OpcodeRowOf.vCmpxGeU64 form
  | .vCmpxTU64 form => Laws.OpcodeRowOf.vCmpxTU64 form

/-- An instruction is determined by its opcode and its operands. -/
theorem Instr.eq_of_opcode_form {i j : Instr} (hop : i.opcode = j.opcode) (hform : i.form = j.form) : i = j := by
  obtain ⟨row, hrow, -, hi⟩ := findRow_opcode i
  obtain ⟨row', hrow', -, hj⟩ := findRow_opcode j
  obtain rfl : row = row' := by rw [hop, hrow'] at hrow; exact (Option.some.inj hrow).symm
  rw [← hi, ← hj, hform]

/-- What a row of the map builds has the row's opcode. -/
theorem opcode_build_of_mem {row : OpcodeRow} (h : row ∈ opcodeRows) (form : Form) : (row.build form).opcode = row.opcode :=
  List.map_inj_left.mp (show opcodeRows.map (fun r => (r.build form).opcode) = opcodeRows.map OpcodeRow.opcode from rfl) row h

/-- What a row of the map builds has the operands it was given. -/
theorem form_build_of_mem {row : OpcodeRow} (h : row ∈ opcodeRows) (form : Form) : (row.build form).form = form :=
  List.map_inj_left.mp (show opcodeRows.map (fun r => (r.build form).form) = opcodeRows.map (fun _ => form) from rfl) row h

/-- The row found for an opcode builds instructions of that opcode, with the operands given. -/
theorem findRow_build {op : Nat} {row : OpcodeRow} (h : findRow op = some row) (form : Form) :
    (row.build form).opcode = op ∧ (row.build form).form = form := by
  have hmem : row ∈ opcodeRows := List.mem_of_find?_eq_some h
  have hop : row.opcode = op := by simpa using List.find?_some h
  exact ⟨hop ▸ opcode_build_of_mem hmem form, form_build_of_mem hmem form⟩

/-- On GCN 1.0 and 1.1 an opcode field selects the row of its own number. -/
theorem selectRow_eq_ok {cfg : Config} (hcfg : cfg.mapped) {op : Nat} {row : OpcodeRow} :
    selectRow cfg op = .ok row ↔ findRow op = some row := by
  simp only [selectRow, if_neg hcfg, Option.bind_some]
  cases findRow op <;> simp

/-! Operand codes (30_encoding.md R81). -/

/-- An inline float is decoded from its own code. -/
theorem decodeInlineFloat_code {code : Nat} {c : InlineFloat} (h : decodeInlineFloat code = some c) : c.code = code := by
  unfold decodeInlineFloat at h
  split at h <;> cases h <;> rfl

/-- A source is parsed from its own code: no two codes name the same operand. -/
theorem parseSrc_code {code : Nat} {lit : Option Word} {src : Src} (h : parseSrc code lit = .ok src) : src.code = code := by
  unfold parseSrc at h
  by_cases hsgpr : code < 104
  · rw [dif_pos hsgpr] at h
    cases h; rfl
  rw [dif_neg hsgpr] at h
  split_ifs at h with hvccLo hvccHi hm0 hexecLo hexecHi hnonneg hneg hlds hliteral hvgpr
  · cases h; exact hvccLo.symm
  · cases h; exact hvccHi.symm
  · cases h; exact hm0.symm
  · cases h; exact hexecLo.symm
  · cases h; exact hexecHi.symm
  · cases h
    have hi : (0 : Int) ≤ code - 128 := by omega
    simp only [Src.code, if_pos hi]
    omega
  · cases h
    have hi : ¬ (0 : Int) ≤ 192 - code := by omega
    simp only [Src.code, if_neg hi]
    omega
  · cases lit <;> cases h
    exact hliteral.symm
  · cases h
    simp only [Src.code]
    omega
  · cases hc : decodeInlineFloat code with
    | none => simp [hc] at h
    | some c =>
      simp only [hc, Except.ok.injEq] at h
      subst h
      exact decodeInlineFloat_code hc

/-- A decoded source has the code it was decoded from. -/
theorem decodeSrc_code {cfg : Config} {w : Width} {litOk mask : Bool} {code : Nat} {lit : Option Word} {src : Src}
    (h : decodeSrc cfg w litOk mask code lit = .ok src) : src.code = code := by
  obtain ⟨src', hparse, hpass⟩ := except_bind_eq_ok.mp h
  obtain ⟨-, rfl⟩ := passing_eq_ok.mp hpass
  exact parseSrc_code hparse

/-! The decoder (30_encoding.md R79). -/

/-- What a VOPC word that decodes gives: the instruction of its OPCODE, with the operands of its SRC0 and VSRC1 fields
(30_encoding.md R70). -/
theorem decodeVopc_eq_ok {cfg : Config} (hcfg : cfg.mapped) {w : Word} {lit : Option Word} {i : Instr}
    (h : decodeVopc cfg w lit = .ok i) :
    i.opcode = field w 17 8 ∧
    ∃ src0 vsrc1, i.form = .vopc src0 vsrc1 ∧ src0.code = field w 0 9 ∧ vsrc1.val = field w 9 8 := by
  obtain ⟨row, hrow, h⟩ := except_bind_eq_ok.mp h
  obtain ⟨src0, hsrc0, h⟩ := except_bind_eq_ok.mp h
  obtain ⟨-, rfl⟩ := passing_eq_ok.mp h
  obtain ⟨hop, hform⟩ := findRow_build ((selectRow_eq_ok hcfg).mp hrow) (.vopc src0 ⟨field w 9 8, field_lt w 9 8⟩)
  exact ⟨hop, src0, _, hform, decodeSrc_code hsrc0, rfl⟩

/-- The OPCODE field of a VOP3 word on GCN 1.0 and 1.1 (30_encoding.md R72). -/
theorem vop3Opcode_mapped {cfg : Config} (hcfg : cfg.mapped) (lo : Word) : vop3Opcode cfg lo = field lo 17 9 := if_neg hcfg

/-- A VOP3 word with OPCODE 256 or more is refused before any other field is read (30_encoding.md R78, R99). -/
theorem decodeVop3_out_of_scope {cfg : Config} (hcfg : cfg.mapped) {lo : Word} (hop : 256 ≤ field lo 17 9) (hi : Word) :
    decodeVop3 cfg lo hi = .error .vop3OpcodeOutOfScope :=
  if_pos ⟨hcfg, by rw [vop3Opcode_mapped hcfg]; omega⟩

/-- What a VOP3 word pair that decodes gives: the instruction of its OPCODE, which is below 256, in the VOP3 form
(30_encoding.md R72, R78). -/
theorem decodeVop3_eq_ok {cfg : Config} (hcfg : cfg.mapped) {lo hi : Word} {i : Instr} (h : decodeVop3 cfg lo hi = .ok i) :
    i.opcode = field lo 17 9 ∧ i.opcode < 256 ∧ ∃ sdst src0 src1, i.form = .vop3 sdst (decodeMods lo hi) src0 src1 := by
  have hlt : field lo 17 9 < 256 := by
    by_contra hge
    rw [decodeVop3_out_of_scope hcfg (Nat.le_of_not_lt hge)] at h
    cases h
  unfold decodeVop3 at h
  split_ifs at h
  obtain ⟨row, hrow, h⟩ := except_bind_eq_ok.mp h
  obtain ⟨src0, -, h⟩ := except_bind_eq_ok.mp h
  obtain ⟨src1, -, h⟩ := except_bind_eq_ok.mp h
  obtain ⟨parsed, -, h⟩ := except_bind_eq_ok.mp h
  obtain ⟨sdst, -, h⟩ := except_bind_eq_ok.mp h
  obtain ⟨-, rfl⟩ := passing_eq_ok.mp h
  rw [selectRow_eq_ok hcfg, vop3Opcode_mapped hcfg] at hrow
  obtain ⟨hop, hform⟩ := findRow_build hrow (.vop3 sdst (decodeMods lo hi) src0 src1)
  exact ⟨hop, hop ▸ hlt, sdst, src0, src1, hform⟩

/-- A result with the bytes after it is the result and those bytes. -/
theorem withRest_eq_ok {r : Except Reject Instr} {bytes rest : List Byte} {i : Instr} :
    withRest r bytes = .ok (i, rest) ↔ r = .ok i ∧ bytes = rest := by
  cases r <;> simp [withRest, Except.map]

/-- Everything a decode that answers did: it read a first word of one of the two encodings, with the literal or the second word that
belongs to it (30_encoding.md R79). -/
theorem decode_eq_ok {cfg : Config} {bytes rest : List Byte} {i : Instr} (h : decode cfg bytes = .ok (i, rest)) :
    ∃ w tail, takeWord bytes = some (w, tail) ∧
      ((field w 25 7 = 0x3E ∧ field w 0 9 = 255 ∧ ∃ lit, takeWord tail = some (lit, rest) ∧ decodeVopc cfg w (some lit) = .ok i) ∨
       (field w 25 7 = 0x3E ∧ field w 0 9 ≠ 255 ∧ tail = rest ∧ decodeVopc cfg w none = .ok i) ∨
       (field w 25 7 ≠ 0x3E ∧ field w 26 6 = 0x34 ∧ ∃ hi, takeWord tail = some (hi, rest) ∧ decodeVop3 cfg w hi = .ok i)) := by
  unfold decode at h
  split at h
  · cases h
  cases hw : takeWord bytes with
  | none => simp [hw] at h
  | some first =>
    obtain ⟨w, tail⟩ := first
    refine ⟨w, tail, rfl, ?_⟩
    simp only [hw] at h
    split_ifs at h with hvopc hlit hvop3
    · cases hnext : takeWord tail with
      | none => simp [hnext] at h
      | some next =>
        obtain ⟨hi, rfl⟩ := withRest_eq_ok.mp (by simpa only [hnext] using h)
        exact .inl ⟨hvopc, hlit, next.1, rfl, hi⟩
    · obtain ⟨hi, hrest⟩ := withRest_eq_ok.mp h
      exact .inr (.inl ⟨hvopc, hlit, hrest, hi⟩)
    · cases hnext : takeWord tail with
      | none => simp [hnext] at h
      | some next =>
        obtain ⟨hi, rfl⟩ := withRest_eq_ok.mp (by simpa only [hnext] using h)
        exact .inr (.inr ⟨hvopc, hvop3, next.1, rfl, hi⟩)

/-- A word of the VOP3 encoding, with a second word behind it, is decoded as the pair (30_encoding.md R79). -/
theorem decode_vop3 {cfg : Config} (hcfg : cfg.mapped) {lo : Word} (henc : field lo 26 6 = 0x34) (hi : Word) (rest : List Byte) :
    decode cfg (bytesOfWord lo ++ bytesOfWord hi ++ rest) = withRest (decodeVop3 cfg lo hi) rest := by
  have hnot : field lo 25 7 ≠ 0x3E := by
    simp only [field] at henc ⊢
    omega
  simp only [decode, List.append_assoc, takeWord_bytesOfWord, if_neg (show ¬ (cfg.version = .v1_2 ∧ _) from fun h => hcfg h.1),
    if_neg hnot, if_pos henc]

/-- What a first word that decodes gives on GCN 1.0 and 1.1, field by field, in each of the two encodings (30_encoding.md R70, R72,
R78). -/
theorem decode_word_fields {cfg : Config} (hcfg : cfg.mapped) {w : Word} {tail rest : List Byte} {i : Instr}
    (h : decode cfg (bytesOfWord w ++ tail) = .ok (i, rest)) :
    (field w 25 7 = 0x3E ∧ i.opcode = field w 17 8 ∧
      ∃ src0 vsrc1, i.form = .vopc src0 vsrc1 ∧ src0.code = field w 0 9 ∧ vsrc1.val = field w 9 8) ∨
    (field w 25 7 ≠ 0x3E ∧ i.opcode = field w 17 9 ∧ i.opcode < 256 ∧
      ∃ sdst mods src0 src1, i.form = .vop3 sdst mods src0 src1) := by
  obtain ⟨w', tail', hw, hcases⟩ := decode_eq_ok h
  obtain ⟨rfl, rfl⟩ : w = w' ∧ tail = tail' := by simpa using hw
  obtain ⟨hvopc, -, lit, -, hi⟩ | ⟨hvopc, -, -, hi⟩ | ⟨hnot, -, hi, -, hi'⟩ := hcases
  · exact .inl ⟨hvopc, decodeVopc_eq_ok hcfg hi⟩
  · exact .inl ⟨hvopc, decodeVopc_eq_ok hcfg hi⟩
  · obtain ⟨hop, hlt, sdst, src0, src1, hform⟩ := decodeVop3_eq_ok hcfg hi'
    exact .inr ⟨hnot, hop, hlt, sdst, decodeMods w hi, src0, src1, hform⟩

/-- A word is the sum of its four VOPC fields, each at its place (30_encoding.md R70). -/
theorem toNat_eq_vopc_fields (w : Word) :
    w.toNat = field w 0 9 + field w 9 8 * 2 ^ 9 + field w 17 8 * 2 ^ 17 + field w 25 7 * 2 ^ 25 := by
  have := w.isLt
  simp only [field]
  omega

/-- Settles O5, by the two encodings of `decode_word_fields`. -/
theorem vopcWordFieldsTile : Obligations.VopcWordFieldsTile := by
  refine ⟨toNat_eq_vopc_fields, fun cfg w tail rest i hcfg h => ?_⟩
  obtain ⟨hvopc, hop, src0, vsrc1, hform, hsrc0, hvsrc1⟩ | ⟨hnot, -, -, sdst, mods, src0, src1, hform⟩ := decode_word_fields hcfg h
  · refine ⟨iff_of_true ⟨src0, vsrc1, hform⟩ hvopc, fun s v hsv => ?_⟩
    obtain ⟨rfl, rfl⟩ := Form.vopc.inj (hform.symm.trans hsv)
    exact ⟨hsrc0, hvsrc1, hop⟩
  · simp [hform, hnot]

/-- Settles O6: the number by `decode_word_fields`, that it names one instruction by `Instr.eq_of_opcode_form`, the refusal by
`decodeVop3_out_of_scope`. -/
theorem opcodeNumbersShared : Obligations.OpcodeNumbersShared := by
  refine ⟨fun cfg w tail rest i hcfg h => ?_, fun i j => Instr.eq_of_opcode_form, fun cfg lo hi rest hcfg henc hop => ?_⟩
  · obtain ⟨hvopc, hop, -⟩ | ⟨hnot, hop, hlt, -⟩ := decode_word_fields hcfg h
    · exact ⟨hop ▸ field_lt w 17 8, by rw [if_pos hvopc, hop]⟩
    · exact ⟨hlt, by rw [if_neg hnot, hop]⟩
  · rw [decode_vop3 hcfg henc, decodeVop3_out_of_scope hcfg hop]
    rfl

end Sys2Proof
end

section
/-! Proofs about the destination of a compare: what an opcode's lane function is in terms of the spec's tables, what the writes of
an instruction leave in its destination, and the statements on the destination mask (40_vopc_common.md R124, R126). -/

namespace Sys2Proof.Machine

/-! The lane functions against the spec's tables (40_vopc_common.md R130, R133, R135, R136). -/

/-- Row `k` of the OP16 table is the operation at offset `k` (40_vopc_common.md R130). -/
theorem op16Result_op16At {k : Nat} (hk : k < 16) (r : Relation) : op16Result (op16At k) r = op16Entry k r := by
  cases r <;> (revert k; decide)

/-- U is the operation at offset 8 alone (30_encoding.md R94). -/
theorem op16At_eq_u {k : Nat} (hk : k < 16) : op16At k = .u ↔ k = 8 := by
  revert k; decide

/-- The floating-point comparison at an offset is the table's lane result, U_READING and DENORM_MODE included (40_vopc_common.md
R130, R134). -/
theorem floatCompare_op16At {n k : Nat} (hk : k < 16) (fmt : FpFormat) (denorm : DenormMode) (reading : UReading)
    (a b : BitVec n) : floatCompare fmt denorm reading (op16At k) a b = floatBit fmt denorm reading k a b := by
  simp only [floatCompare, floatBit, op16At_eq_u hk, op16Result_op16At hk]

/-- Row `k` of the OP8 table is the operation at offset `k` (40_vopc_common.md R133). -/
theorem op8Result_op8At {k : Nat} (hk : k < 8) (a b : Int) : op8Result (op8At k) a b = op8Entry k a b := by
  unfold op8Entry
  split_ifs with hlt heq
  all_goals
    interval_cases k <;> simp [op8At, op8Result, op8Rows, Nat.testBit] <;> omega

/-- The quiet bit of a pattern is a bit of its fraction. -/
theorem fpFrac_ne_zero_of_quiet {n : Nat} {fmt : FpFormat} (hfrac : 0 < fmt.fracBits) {x : BitVec n}
    (hquiet : x.getLsbD (fmt.fracBits - 1) = true) : fpFrac fmt x ≠ 0 := by
  intro hzero
  have hbit : (fpFrac fmt x).testBit (fmt.fracBits - 1) = true := by
    simpa [fpFrac, Nat.testBit_mod_two_pow, hfrac, BitVec.testBit_toNat] using hquiet
  simp [hzero] at hbit

/-- The exponent field is at most all ones. -/
theorem fpExp_le_max {n : Nat} (fmt : FpFormat) (x : BitVec n) : fpExp fmt x ≤ fpExpMax fmt :=
  Nat.le_sub_one_of_lt (Nat.mod_lt _ (Nat.two_pow_pos _))

/-- The rows of the class table a pattern belongs to: the one of its class (40_vopc_common.md R135). -/
theorem classRow_eq_true {n : Nat} {fmt : FpFormat} (hexp : 0 < fmt.expBits) (hfrac : 0 < fmt.fracBits) (x : BitVec n) {k : Nat}
    (hk : k < 10) : classRow fmt k x = true ↔ k = classBit (fpClass fmt x) := by
  have hmax : 0 < fpExpMax fmt := Nat.sub_pos_of_lt (Nat.one_lt_two_pow (by omega))
  have hle := fpExp_le_max fmt x
  obtain hspecial | hzero | ⟨hpos, hlt⟩ :
      fpExp fmt x = fpExpMax fmt ∨ fpExp fmt x = 0 ∨ 0 < fpExp fmt x ∧ fpExp fmt x < fpExpMax fmt := by omega
  · by_cases hnan : fpFrac fmt x = 0
    · have hquiet : x.getLsbD (fmt.fracBits - 1) = false := by
        simpa using fun h => fpFrac_ne_zero_of_quiet hfrac h hnan
      cases hsign : fpSign fmt x <;> interval_cases k <;>
        simp [classRow, classBit, fpClass, hspecial, hnan, hquiet, hsign, hmax.ne']
    · cases hquiet : x.getLsbD (fmt.fracBits - 1) <;> interval_cases k <;>
        simp [classRow, classBit, fpClass, hspecial, hnan, hquiet, hmax.ne']
  · by_cases hdenorm : fpFrac fmt x = 0 <;> cases hsign : fpSign fmt x <;> interval_cases k <;>
      simp [classRow, classBit, fpClass, hzero, hmax.ne, hdenorm, hsign]
  · cases hsign : fpSign fmt x <;> interval_cases k <;>
      simp [classRow, classBit, fpClass, hpos, hpos.ne', hlt, hlt.ne, hsign]

/-- Every class has one of the ten mask bits (40_vopc_common.md R135). -/
theorem classBit_lt (c : FpClass) : classBit c < 10 := by
  cases c <;> decide

/-- The class test is the class table's lane result (40_vopc_common.md R136). -/
theorem classTest_eq_classLaneBit {n : Nat} {fmt : FpFormat} (hexp : 0 < fmt.expBits) (hfrac : 0 < fmt.fracBits) (a b : BitVec n) :
    classTest fmt a b = classLaneBit fmt a b := by
  rw [Bool.eq_iff_iff]
  simp only [classTest, classLaneBit, List.any_eq_true, List.mem_range, Bool.and_eq_true]
  constructor
  · exact fun hbit => ⟨_, classBit_lt _, (classRow_eq_true hexp hfrac a (classBit_lt _)).mpr rfl, hbit⟩
  · rintro ⟨k, hk, hrow, hbit⟩
    rwa [← (classRow_eq_true hexp hfrac a hk).mp hrow]

/-! The truth value of an opcode (40_vopc_common.md R124). -/

/-- The truth value of the operation of opcode `op` on two operands, by the spec's tables. -/
def opcodeTruth {n : Nat} (cfg : Config) (op : Nat) (a b : BitVec n) : Bool :=
  if op < 128 then floatBit (formatAt op) (denormAt cfg op) cfg.uReading (op % 16) a b
  else if op % 16 = 8 then classLaneBit (formatAt op) a b
  else intBit op a b

/-- From 128 on, an opcode's offset is one of the eight integer operations or the class test (30_encoding.md R93, R97). -/
theorem opcode_float_or_offset_le (i : Instr) : i.opcode < 128 ∨ i.opcode % 16 ≤ 8 := by
  obtain ⟨row, hrow, hop, -⟩ := findRow_opcode i
  have hlisted : ∀ row ∈ opcodeRows, row.opcode < 128 ∨ row.opcode % 16 ≤ 8 := by
    simp only [opcodeRows, List.forall_mem_append]
    decide
  exact hop ▸ hlisted row (List.mem_of_find?_eq_some hrow)

/-- The integer comparison an opcode selects is the OP8 table's lane result (40_vopc_common.md R133). -/
theorem intCompare_op8At {n op : Nat} (hop : op % 16 < 8) (a b : BitVec n) :
    (if op / 64 % 2 = 1 then unsignedCompare (op8At (op % 16)) a b else signedCompare (op8At (op % 16)) a b) = intBit op a b := by
  have hoffset : op % 16 = op % 8 := by omega
  simp only [unsignedCompare, signedCompare, intBit, hoffset, op8Result_op8At (hoffset ▸ hop)]

/-- The format of an opcode has an exponent and a fraction. -/
theorem formatAt_fields_pos (op : Nat) : 0 < (formatAt op).expBits ∧ 0 < (formatAt op).fracBits := by
  unfold formatAt
  split_ifs <;> decide

/-- The lane function of an instruction's opcode is its operation's truth value. -/
theorem laneCmp_eq_opcodeTruth (cfg : Config) (i : Instr) (a b : BitVec (opcodeWidth i.opcode).bits) :
    laneCmp cfg i.opcode a b = opcodeTruth cfg i.opcode a b := by
  have hlisted := opcode_float_or_offset_le i
  obtain ⟨hexp, hfrac⟩ := formatAt_fields_pos i.opcode
  unfold laneCmp opcodeTruth
  split_ifs with hfloat hclass hunsigned
  · exact floatCompare_op16At (Nat.mod_lt _ (by decide)) ..
  · exact classTest_eq_classLaneBit hexp hfrac a b
  · rw [← intCompare_op8At (by omega), if_pos hunsigned]
  · rw [← intCompare_op8At (by omega), if_neg hunsigned]

/-- A lane's result is the truth value of the opcode on the operands of the opcode's width. -/
theorem laneResult_eq_opcodeTruth (i : Instr) (s : State) (L : Nat) : laneResult i s L =
    opcodeTruth s.config i.opcode (operand0 (opcodeWidth i.opcode) s i.form L) (operand1 (opcodeWidth i.opcode) s i.form L) := by
  obtain hbit | hbit : i.opcode / 32 % 2 = 0 ∨ i.opcode / 32 % 2 = 1 := by omega
  · have hwidth : opcodeWidth i.opcode = .b32 := by simp [opcodeWidth, hbit]
    rw [hwidth]
    simp only [laneResult, opcodeTruth, formatAt, denormAt, hbit, zero_ne_one, if_true, if_false]
  · have hwidth : opcodeWidth i.opcode = .b64 := by simp [opcodeWidth, hbit]
    rw [hwidth]
    simp only [laneResult, opcodeTruth, formatAt, denormAt, hbit, one_ne_zero, if_true, if_false]

/-- What an instruction computes in a lane is the truth value of its operation there (40_vopc_common.md R124). -/
theorem cmpLane_eq_laneResult (i : Instr) (s : State) : cmpLane i s = laneResult i s := by
  funext L
  rw [laneResult_eq_opcodeTruth, cmpLane, laneCmp_eq_opcodeTruth]

/-! What an instruction leaves in its destination (40_vopc_common.md R126). -/

/-- Whether a finished compare goes on or faults, the state is the compare's, with SIGNAL set if a lane signalled. -/
theorem finishCompare_wrote {s t : State} {form : Form} {x : Bool} {cmp sig : Nat → Bool}
    (h : finishCompare s form x cmp sig = .next t ∨ finishCompare s form x cmp sig = .fault (.signal t)) :
    t = compareState s form x (resultMask s cmp) ∨ t = (compareState s form x (resultMask s cmp)).setSignal := by
  rw [finishCompare_eq] at h
  split at h
  · obtain h | h := h
    · exact .inr (raiseSignal_next.mp h).2
    · exact .inr (Fault.signal.inj (raiseSignal_fault.mp h).2)
  · obtain h | h := h
    · exact .inl (Host.Outcome.next.inj h).symm
    · cases h

/-- An instruction that made its writes was well-formed, and left the compare state of its lane results. -/
theorem Wrote.eq_compareState {i : Instr} {s t : State} (h : Wrote i s t) : i.WellFormed s.config ∧
    (t = compareState s i.form (decide (i.opcode / 16 % 2 = 1)) (resultMask s (laneResult i s)) ∨
      t = (compareState s i.form (decide (i.opcode / 16 % 2 = 1)) (resultMask s (laneResult i s))).setSignal) := by
  rw [← cmpLane_eq_laneResult]
  unfold Wrote at h
  obtain ⟨why, -, e⟩ | ⟨-, -, e⟩ | ⟨-, -, -, e⟩ | ⟨hwf, -, -, e⟩ := exec_cases i s
  · simp [e] at h
  · simp [e] at h
  · simp [e] at h
  · rw [e] at h
    exact ⟨hwf, finishCompare_wrote h⟩

/-- VCC after an instruction is VCC after the write of its destination. -/
theorem Wrote.vcc_eq {i : Instr} {s t : State} (h : Wrote i s t) :
    t.vcc = (s.writeDest i.form.dest (resultMask s (laneResult i s))).vcc := by
  obtain ⟨-, rfl | rfl⟩ := h.eq_compareState <;> simp

/-- An SGPR after an instruction is the SGPR after the write of its destination. -/
theorem Wrote.sgpr_eq {i : Instr} {s t : State} (h : Wrote i s t) (k : Nat) :
    t.sgpr k = (s.writeDest i.form.dest (resultMask s (laneResult i s))).sgpr k := by
  obtain ⟨-, rfl | rfl⟩ := h.eq_compareState <;> simp

/-- An instruction that made its writes and has a pair as destination left the mask's halves there, low half first
(40_vopc_common.md R126). -/
theorem Wrote.sgpr_pair_eq {i : Instr} {s t : State} (h : Wrote i s t) {n : SgprNum} (hdest : i.form.dest = .pair n) :
    t.sgpr n = lowHalf (resultMask s (laneResult i s)) ∧ t.sgpr (n + 1) = highHalf (resultMask s (laneResult i s)) := by
  obtain ⟨hwf, -⟩ := h.eq_compareState
  obtain ⟨-, hfile⟩ := dest_pair_of_wellFormed hwf hdest
  simp [h.sgpr_eq, hdest, State.writeDest_pair_sgpr _ _ _ _ hfile]

/-- The destination of an instruction holds its result mask, bit for bit (10_state.md R28). -/
theorem Wrote.destBit_eq {i : Instr} {s t : State} (h : Wrote i s t) {L : Nat} (hL : L < 64) :
    destBit t i.form.dest L = (resultMask s (laneResult i s)).getLsbD L := by
  cases hdest : i.form.dest with
  | vcc => simp [destBit, h.vcc_eq, hdest]
  | pair n =>
    obtain ⟨hlo, hhi⟩ := h.sgpr_pair_eq hdest
    simp only [destBit, hlo, hhi, lowHalf, highHalf, BitVec.getLsbD_extractLsb']
    split_ifs with hhalf
    · simp [hhalf]
    · have hback : 32 + (L - 32) = L := by omega
      have hbound : L - 32 < 32 := by omega
      simp [hback, hbound]

/-- A lane's bit of the result mask: the lane's result where EXEC is 1, else 0 (40_vopc_common.md R124, R125). -/
theorem resultMask_getLsbD (s : State) (cmp : Nat → Bool) {L : Nat} (hL : L < 64) :
    (resultMask s cmp).getLsbD L = (s.execMask.getLsbD L && cmp L) := by
  simp only [resultMask, laneMask_getLsbD, hL, decide_true, Bool.true_and]

/-- The result mask is the mask with those bits. -/
theorem eq_resultMask {s : State} {cmp : Nat → Bool} {d : LaneMask}
    (h : ∀ L, L < 64 → d.getLsbD L = (s.execMask.getLsbD L && cmp L)) : d = resultMask s cmp :=
  BitVec.eq_of_getLsbD_eq fun L hL => (h L hL).trans (resultMask_getLsbD s cmp hL).symm

/-- Settles O32: the destination holds the result mask (`Wrote.destBit_eq`), which in an executing lane is the lane's result. -/
theorem executingLaneBitIsTruthValue : Obligations.ExecutingLaneBitIsTruthValue := by
  intro i s t L hwrote hL hexec
  rw [hwrote.destBit_eq hL, resultMask_getLsbD s _ hL, hexec, Bool.true_and]

/-- Settles O34: `d` is the result mask, and each form's destination holds it by `Wrote.vcc_eq` and `Wrote.sgpr_pair_eq`. -/
theorem destinationWriteIsWholeMask : Obligations.DestinationWriteIsWholeMask := by
  intro i s t d hwrote hd
  obtain rfl : d = resultMask s (laneResult i s) := eq_resultMask hd
  refine ⟨fun src0 vsrc1 hform => ?vopc, fun mods src0 src1 hform => ?vcc, fun n mods src0 src1 hform => ?pair⟩
  case vopc => simp [hwrote.vcc_eq, hform, Form.dest]
  case vcc => simp [hwrote.vcc_eq, hform, Form.dest]
  case pair =>
    have hdest : i.form.dest = .pair n := by simp [hform, Form.dest]
    obtain ⟨hlo, hhi⟩ := hwrote.sgpr_pair_eq hdest
    exact ⟨hlo, hhi, by simp [hwrote.vcc_eq, hdest]⟩

end Sys2Proof.Machine
end

section
/-! Proofs about decoding and encoding as inverses: what the fields of an encoded word are, what each part of the decoder answers on
them, what an answer says of the bytes, and the round trips and refusals (30_encoding.md R70 to R101). -/

namespace Sys2Proof

open Machine

/-! Operand codes, from the operand to its code and back (30_encoding.md R81). -/

/-- The codes from 128 on name the inline integers from 0 on (30_encoding.md R83). -/
theorem parseSrc_nonneg {k : Nat} (hk : k ≤ 64) (lit : Option Word) : parseSrc (128 + k) lit = .ok (.inlineInt k) := by
  rw [parseSrc.eq_def, dif_neg (by omega)]
  simp only [show ∀ c < 128, 128 + k ≠ c by omega, show 128 ≤ 128 + k ∧ 128 + k ≤ 192 by omega, if_false, if_true,
    Nat.reduceLT, and_self]
  congr 2
  omega

/-- The codes from 193 on name the inline integers from -1 down (30_encoding.md R83). -/
theorem parseSrc_neg {k : Nat} (hpos : 1 ≤ k) (hk : k ≤ 16) (lit : Option Word) :
    parseSrc (192 + k) lit = .ok (.inlineInt (-k)) := by
  rw [parseSrc.eq_def, dif_neg (by omega)]
  simp only [show ∀ c < 128, 192 + k ≠ c by omega, show ¬ (128 ≤ 192 + k ∧ 192 + k ≤ 192) by omega,
    show 193 ≤ 192 + k ∧ 192 + k ≤ 208 by omega, if_false, if_true, Nat.reduceLT, and_self]
  congr 2
  omega

/-- An inline float is parsed from its code (30_encoding.md R84). -/
theorem parseSrc_inlineFloat (c : InlineFloat) (lit : Option Word) : parseSrc c.code lit = .ok (.inlineFloat c) := by
  cases c <;> rfl

/-- A vector register is parsed from its code (30_encoding.md R82). -/
theorem parseSrc_vgpr (n : VgprNum) (lit : Option Word) : parseSrc (256 + n) lit = .ok (.vgpr n) := by
  rw [parseSrc.eq_def, dif_neg (by omega)]
  simp only [show ∀ c < 256, 256 + n.val ≠ c by omega, show ¬ (128 ≤ 256 + n.val ∧ 256 + n.val ≤ 192) by omega,
    show ¬ (193 ≤ 256 + n.val ∧ 256 + n.val ≤ 208) by omega, show 256 ≤ 256 + n.val ∧ 256 + n.val < 512 by omega,
    if_false, dif_pos, Nat.reduceLT, and_self, Nat.add_sub_cancel_left]

/-- A scalar register is parsed from its code (30_encoding.md R91). -/
theorem parseSrc_of_isScalarReg {src : Src} (h : src.isScalarReg = true) (lit : Option Word) : parseSrc src.code lit = .ok src := by
  cases src with
  | sgpr n => exact dif_pos n.isLt
  | vccLo | vccHi | m0 | execLo | execHi => rfl
  | inlineInt | inlineFloat | literal | vgpr => cases h

/-- Scalar registers have different operand codes (30_encoding.md R91). -/
theorem Src.code_inj_of_isScalarReg {a b : Src} (ha : a.isScalarReg = true) (hb : b.isScalarReg = true) :
    a.code = b.code ↔ a = b := by
  refine ⟨fun h => ?_, congrArg Src.code⟩
  have hparse := parseSrc_of_isScalarReg ha none
  rw [h, parseSrc_of_isScalarReg hb none] at hparse
  exact (Except.ok.inj hparse).symm

/-- An admitted inline integer is one that has a code (30_encoding.md R83). -/
theorem admitSrc_inlineInt {cfg : Config} {w : Width} {litOk mask : Bool} {z : Int}
    (h : admitSrc cfg w litOk mask (.inlineInt z) = none) : -16 ≤ z ∧ z ≤ 64 := by
  by_contra hz
  simp only [admitSrc, if_pos (show z < -16 ∨ 64 < z by omega)] at h
  cases h

/-- A literal is admitted only where one may stand (30_encoding.md R86). -/
theorem admitSrc_literal {cfg : Config} {w : Width} {litOk mask : Bool} {x : Word}
    (h : admitSrc cfg w litOk mask (.literal x) = none) : litOk = true := by
  cases w <;> cases litOk <;> simp [admitSrc] at h ⊢

/-- An admitted source is parsed back from its code, a literal with its word beside it (30_encoding.md R81, R86). -/
theorem parseSrc_of_admitted {cfg : Config} {w : Width} {litOk mask : Bool} {src : Src} {lit : Option Word}
    (h : admitSrc cfg w litOk mask src = none) (hlit : ∀ x, src = .literal x → lit = some x) :
    parseSrc src.code lit = .ok src := by
  cases src with
  | sgpr | vccLo | vccHi | m0 | execLo | execHi => exact parseSrc_of_isScalarReg rfl lit
  | inlineInt z =>
    obtain ⟨hlow, hhigh⟩ := admitSrc_inlineInt h
    obtain ⟨k, rfl | rfl⟩ := z.eq_nat_or_neg
    · simpa [Src.code] using parseSrc_nonneg (k := k) (by omega) lit
    · obtain rfl | hpos := Nat.eq_zero_or_pos k
      · rfl
      · simpa [Src.code, hpos.ne'] using parseSrc_neg (k := k) hpos (by omega) lit
  | inlineFloat c => exact parseSrc_inlineFloat c lit
  | literal x =>
    rw [hlit x rfl]
    rfl
  | vgpr n => exact parseSrc_vgpr n lit

/-- The code of an admitted source fits its 9-bit field, and is 255 exactly for a literal (30_encoding.md R81, R86). -/
theorem Src.code_of_admitted {cfg : Config} {w : Width} {litOk mask : Bool} {src : Src}
    (h : admitSrc cfg w litOk mask src = none) : src.code < 512 ∧ (src.code = 255 ↔ src.isLiteral = true) := by
  cases src with
  | sgpr n => simp [Src.code, Src.isLiteral]; omega
  | inlineInt z =>
    have := admitSrc_inlineInt h
    simp only [Src.code, Src.isLiteral]
    split <;> simp <;> omega
  | inlineFloat c => cases c <;> decide
  | vgpr n => simp [Src.code, Src.isLiteral]; omega
  | vccLo | vccHi | m0 | execLo | execHi | literal => simp [Src.code, Src.isLiteral]

/-- A parsed source is a literal exactly if its code is 255, and then the literal is the word beside it (30_encoding.md R86). -/
theorem parseSrc_literal {code : Nat} {lit : Option Word} {src : Src} (h : parseSrc code lit = .ok src) :
    (code = 255 ↔ src.isLiteral = true) ∧ ∀ x, src = .literal x → lit = some x := by
  by_cases hcode : code = 255
  · subst hcode
    cases lit with
    | none => cases h
    | some x =>
      cases h
      simp [Src.isLiteral]
  · have hsrc : src.isLiteral = false := by
      rw [Bool.eq_false_iff]
      intro hlit
      cases src with
      | literal x => exact hcode (parseSrc_code h).symm
      | _ => cases hlit
    exact ⟨by simp [hcode, hsrc], fun x hx => by simp [hx, Src.isLiteral] at hsrc⟩

/-- A destination is parsed from its code (30_encoding.md R90). -/
theorem parseSdst_eq_ok {code : Nat} {sdst : Sdst} : parseSdst code = .ok sdst ↔ sdst.code = code := by
  unfold parseSdst
  cases sdst with
  | pair n => split_ifs <;> simp [Sdst.code, Fin.ext_iff] <;> omega
  | vcc => split_ifs <;> simp [Sdst.code] <;> omega

/-- Two different scalar registers are what the scalar check refuses (30_encoding.md R91). -/
theorem admitScalars_eq (src0 src1 : Src) : admitScalars src0 src1 =
    if src0.isScalarReg = true ∧ src1.isScalarReg = true ∧ src0.code ≠ src1.code then some .twoScalarRegisters else none := by
  unfold admitScalars
  by_cases h0 : src0.isScalarReg = true
  · by_cases h1 : src1.isScalarReg = true
    · simp [h0, h1, Src.code_inj_of_isScalarReg h0 h1]
    · simp [h1]
  · simp [h0]

/-- A VOPC form is admitted exactly if both its sources are (30_encoding.md R99). -/
theorem admitForm_vopc {cfg : Config} {w : Width} {mask : Bool} {src0 : Src} {vsrc1 : VgprNum} :
    admitForm cfg w mask (.vopc src0 vsrc1) = none ↔
      admitSrc cfg w true false src0 = none ∧ admitSrc cfg w false mask (.vgpr vsrc1) = none := by
  simp [admitForm]

/-- A VOP3 form is admitted exactly if its sources, its destination and its scalar registers are (30_encoding.md R99). -/
theorem admitForm_vop3 {cfg : Config} {w : Width} {mask : Bool} {sdst : Sdst} {mods : Mods} {src0 src1 : Src} :
    admitForm cfg w mask (.vop3 sdst mods src0 src1) = none ↔
      admitSrc cfg w false false src0 = none ∧ admitSrc cfg w false mask src1 = none ∧ admitSdst cfg sdst = none ∧
        admitScalars src0 src1 = none := by
  simp [admitForm]

/-- Settles O13: with the three checks before it passed, `Instr.check` is the scalar check, which is `admitScalars_eq`. -/
theorem twoScalarRegistersRefused : Obligations.TwoScalarRegistersRefused := by
  intro cfg i sdst mods src0 src1 hform hsrc0 hsrc1 hsdst
  rw [← admitScalars_eq, Instr.check, hform]
  simp [admitForm, hsrc0, hsrc1, hsdst]

/-! The opcode field (30_encoding.md R93, R97, R76). -/

/-- The number `op` in an OPCODE field selects the instruction: the row found builds it from its operands. -/
def Selects (cfg : Config) (op : Nat) (i : Instr) : Prop :=
  ∃ row, selectRow cfg op = .ok row ∧ row.opcode = i.opcode ∧ row.build i.form = i

/-- On GCN 1.0 and 1.1 an instruction is selected by its own opcode. -/
theorem selects_opcode {cfg : Config} (hcfg : cfg.mapped) (i : Instr) : Selects cfg i.opcode i := by
  obtain ⟨row, hrow, hop, hbuild⟩ := findRow_opcode i
  exact ⟨row, (selectRow_eq_ok hcfg).mpr hrow, hop, hbuild⟩

/-- On GCN 1.2 an instruction is selected by the numbers the configured map sends to it (30_encoding.md R76). -/
theorem selects_of_lookup {cfg : Config} (hversion : cfg.version = .v1_2) {op : Nat} {i : Instr}
    (h : cfg.gcn12Map.lookup op = some i.opcode) : Selects cfg op i := by
  obtain ⟨row, hrow, hop, hbuild⟩ := findRow_opcode i
  exact ⟨row, by simp [selectRow, hversion, h, hrow], hop, hbuild⟩

/-- Under every configuration, what a selected row builds has the row's opcode and the operands given. -/
theorem selectRow_build {cfg : Config} {op : Nat} {row : OpcodeRow} (h : selectRow cfg op = .ok row) (form : Form) :
    (row.build form).opcode = row.opcode ∧ (row.build form).form = form := by
  have hmem : row ∈ opcodeRows := by
    simp only [selectRow] at h
    split at h
    next row' hfind =>
      obtain ⟨op', -, hrow⟩ := Option.bind_eq_some_iff.mp hfind
      cases h
      exact List.mem_of_find?_eq_some hrow
    next => cases h
  exact ⟨opcode_build_of_mem hmem form, form_build_of_mem hmem form⟩

/-- The opcodes of the map in order: 0 to 127, the integer compares with their class tests, the unsigned compares
(30_encoding.md R93). -/
theorem opcodeRows_map_opcode : opcodeRows.map OpcodeRow.opcode =
    List.range' 0 128 ++ List.range' 128 9 ++ List.range' 144 9 ++ List.range' 160 9 ++ List.range' 176 9 ++
      List.range' 192 8 ++ List.range' 208 8 ++ List.range' 224 8 ++ List.range' 240 8 := by
  rfl

/-- An opcode below 256 has no row exactly if it is one of the 60 unlisted ones (30_encoding.md R97). -/
theorem findRow_eq_none {op : Nat} (hop : op < 256) : findRow op = none ↔ unlistedOp op = true := by
  have hmem : findRow op = none ↔ op ∉ opcodeRows.map OpcodeRow.opcode := by
    simp [findRow, List.find?_eq_none]
  simp only [hmem, opcodeRows_map_opcode, List.mem_append, List.mem_range'_1, unlistedOp, decide_eq_true_eq]
  omega

/-- On GCN 1.0 and 1.1 an unlisted opcode is refused as such (30_encoding.md R97). -/
theorem selectRow_unlisted {cfg : Config} (hcfg : cfg.mapped) {op : Nat} (h : unlistedOp op = true) :
    selectRow cfg op = .error .unlistedOpcode := by
  have hop : op < 256 := by simp only [unlistedOp, decide_eq_true_eq] at h; omega
  simp [selectRow, if_neg hcfg, (findRow_eq_none hop).mpr h]


/-! The fields of encoded words (30_encoding.md R70, R72, R73). -/

/-- The fields of the first VOP3A word on GCN 1.0 and 1.1 are those it was made of (30_encoding.md R72). -/
theorem vop3Lo_fields {sdst op : Nat} (mods : Mods) (hsdst : sdst < 256) (hop : op < 512) :
    field (vop3Lo sdst mods op) 0 8 = sdst ∧ field (vop3Lo sdst mods op) 8 1 = mods.abs0.toNat ∧
    field (vop3Lo sdst mods op) 9 1 = mods.abs1.toNat ∧ field (vop3Lo sdst mods op) 10 1 = 0 ∧
    field (vop3Lo sdst mods op) 11 6 = 0 ∧ field (vop3Lo sdst mods op) 17 9 = op ∧
    field (vop3Lo sdst mods op) 26 6 = 0x34 := by
  have := mods.abs0.toNat_lt
  have := mods.abs1.toNat_lt
  simp only [vop3Lo, field_ofNat]
  omega

/-- The fields of the first VOP3A word on GCN 1.2 are those it was made of (30_encoding.md R73). -/
theorem vop3Lo12_fields {sdst op : Nat} (mods : Mods) (hsdst : sdst < 256) (hop : op < 1024) :
    field (vop3Lo12 sdst mods op) 0 8 = sdst ∧ field (vop3Lo12 sdst mods op) 8 1 = mods.abs0.toNat ∧
    field (vop3Lo12 sdst mods op) 9 1 = mods.abs1.toNat ∧ field (vop3Lo12 sdst mods op) 10 1 = 0 ∧
    field (vop3Lo12 sdst mods op) 11 5 = 0 ∧ field (vop3Lo12 sdst mods op) 16 10 = op ∧
    field (vop3Lo12 sdst mods op) 26 6 = 0x34 := by
  have := mods.abs0.toNat_lt
  have := mods.abs1.toNat_lt
  simp only [vop3Lo12, field_ofNat]
  omega

/-- The fields of the second VOP3A word are those it was made of (30_encoding.md R72). -/
theorem vop3Hi_fields {src0 src1 : Nat} (mods : Mods) (h0 : src0 < 512) (h1 : src1 < 512) :
    field (vop3Hi mods src0 src1) 0 9 = src0 ∧ field (vop3Hi mods src0 src1) 9 9 = src1 ∧
    field (vop3Hi mods src0 src1) 18 9 = 0 ∧ field (vop3Hi mods src0 src1) 27 2 = 0 ∧
    field (vop3Hi mods src0 src1) 29 1 = mods.neg0.toNat ∧ field (vop3Hi mods src0 src1) 30 1 = mods.neg1.toNat ∧
    field (vop3Hi mods src0 src1) 31 1 = 0 := by
  have := mods.neg0.toNat_lt
  have := mods.neg1.toNat_lt
  simp only [vop3Hi, field_ofNat]
  omega

/-- A one-bit field, read as a flag and written as a number again. -/
theorem toNat_field_beq_one (w : Word) (lo : Nat) : (field w lo 1 == 1).toNat = field w lo 1 := by
  have : field w lo 1 < 2 := field_lt w lo 1
  interval_cases field w lo 1 <;> rfl

/-- A VOPC word is made of its own fields (30_encoding.md R70). -/
theorem vopcWord_of_fields {w : Word} (henc : field w 25 7 = 0x3E) :
    vopcWord (field w 0 9) (field w 9 8) (field w 17 8) = w := by
  rw [vopcWord, ← henc, ← toNat_eq_vopc_fields, BitVec.ofNat_toNat, BitVec.setWidth_eq]

/-- A first VOP3A word with zeros where zeros must be is made of its own fields (30_encoding.md R72, R77). -/
theorem vop3Lo_of_fields {lo hi : Word} (henc : field lo 26 6 = 0x34) (h10 : field lo 10 1 = 0) (h11 : field lo 11 6 = 0) :
    vop3Lo (field lo 0 8) (decodeMods lo hi) (field lo 17 9) = lo := by
  apply BitVec.eq_of_toNat_eq
  have := lo.isLt
  simp only [vop3Lo, decodeMods, toNat_field_beq_one, BitVec.toNat_ofNat]
  simp only [field] at *
  omega

/-- A second VOP3A word with zeros where zeros must be is made of its own fields (30_encoding.md R72, R77). -/
theorem vop3Hi_of_fields {lo hi : Word} (h18 : field hi 18 9 = 0) (h27 : field hi 27 2 = 0) (h31 : field hi 31 1 = 0) :
    vop3Hi (decodeMods lo hi) (field hi 0 9) (field hi 9 9) = hi := by
  apply BitVec.eq_of_toNat_eq
  have := hi.isLt
  simp only [vop3Hi, decodeMods, toNat_field_beq_one, BitVec.toNat_ofNat]
  simp only [field] at *
  omega

/-- The modifiers read from words with the modifiers' bits (30_encoding.md R89). -/
theorem decodeMods_eq {lo hi : Word} {mods : Mods} (ha0 : field lo 8 1 = mods.abs0.toNat) (ha1 : field lo 9 1 = mods.abs1.toNat)
    (hn0 : field hi 29 1 = mods.neg0.toNat) (hn1 : field hi 30 1 = mods.neg1.toNat) : decodeMods lo hi = mods := by
  have hflag : ∀ b : Bool, (b.toNat == 1) = b := by decide
  simp only [decodeMods, ha0, ha1, hn0, hn1, hflag]

/-- The must-be-zero check on GCN 1.0 and 1.1, field by field (30_encoding.md R77, R98). -/
theorem mustBeZero_mapped {cfg : Config} (hcfg : cfg.mapped) {lo hi : Word} : mustBeZero cfg lo hi = true ↔
    field lo 10 1 = 0 ∧ field lo 11 6 = 0 ∧ field hi 18 9 = 0 ∧ field hi 27 2 = 0 ∧ field hi 31 1 = 0 := by
  simp [mustBeZero, if_neg hcfg, and_assoc]

/-- The must-be-zero check on GCN 1.2, field by field (30_encoding.md R73, R77). -/
theorem mustBeZero_gcn12 {cfg : Config} (hversion : cfg.version = .v1_2) {lo hi : Word} : mustBeZero cfg lo hi = true ↔
    field lo 10 1 = 0 ∧ field lo 11 5 = 0 ∧ field hi 18 9 = 0 ∧ field hi 27 2 = 0 ∧ field hi 31 1 = 0 := by
  simp [mustBeZero, hversion, and_assoc]

/-- A word taken from bytes is their beginning. -/
theorem takeWord_eq_some {bytes rest : List Byte} {w : Word} (h : takeWord bytes = some (w, rest)) :
    bytes = bytesOfWord w ++ rest := by
  match bytes, h with
  | b0 :: b1 :: b2 :: b3 :: tail, h =>
    simp only [takeWord, Option.some.injEq, Prod.mk.injEq] at h
    obtain ⟨rfl, rfl⟩ := h
    have := b0.isLt
    have := b1.isLt
    have := b2.isLt
    have := b3.isLt
    simp only [bytesOfWord, List.cons_append, List.nil_append, List.cons.injEq, and_true]
    refine ⟨?_, ?_, ?_, ?_⟩
    all_goals
      apply BitVec.eq_of_toNat_eq
      simp only [wordOfBytes, field_ofNat, BitVec.toNat_ofNat]
      omega

/-! What each part of the decoder answers on an encoded instruction. -/

/-- A source is decoded from the code of an admitted operand. -/
theorem decodeSrc_of_admitted {cfg : Config} {w : Width} {litOk mask : Bool} {src : Src} {lit : Option Word}
    (h : admitSrc cfg w litOk mask src = none) (hlit : ∀ x, src = .literal x → lit = some x) :
    decodeSrc cfg w litOk mask src.code lit = .ok src := by
  rw [decodeSrc, parseSrc_of_admitted h hlit, Except.bind, h, passing_none]

/-- A VOPC word with the fields of a well-formed instruction decodes to it (30_encoding.md R70, R80). -/
theorem decodeVopc_of_fields {cfg : Config} {w : Word} {lit : Option Word} {i : Instr} {src0 : Src} {vsrc1 : VgprNum}
    (hform : i.form = .vopc src0 vsrc1) (hwf : i.WellFormed cfg) (hlit : ∀ x, src0 = .literal x → lit = some x)
    (hsel : Selects cfg (field w 17 8) i) (hsrc0 : field w 0 9 = src0.code) (hvsrc1 : field w 9 8 = vsrc1.val) :
    decodeVopc cfg w lit = .ok i := by
  obtain ⟨row, hrow, hop, hbuild⟩ := hsel
  rw [Instr.WellFormed, Instr.check, hform, admitForm_vopc] at hwf
  obtain ⟨hadmit0, hadmit1⟩ := hwf
  have hv : (⟨field w 9 8, field_lt w 9 8⟩ : VgprNum) = vsrc1 := Fin.ext hvsrc1
  simp only [decodeVopc, hrow, Except.bind, hop, hsrc0, decodeSrc_of_admitted hadmit0 hlit, hv, hadmit1, passing_none]
  rw [← hform, hbuild]

/-- A VOP3 word pair with the fields of a well-formed instruction decodes to it (30_encoding.md R72, R73, R89 to R92). -/
theorem decodeVop3_of_fields {cfg : Config} {lo hi : Word} {i : Instr} {sdst : Sdst} {mods : Mods} {src0 src1 : Src}
    (hform : i.form = .vop3 sdst mods src0 src1) (hwf : i.WellFormed cfg) (hsel : Selects cfg (vop3Opcode cfg lo) i)
    (hscope : ¬ (cfg.version ≠ .v1_2 ∧ 255 < vop3Opcode cfg lo)) (hzero : mustBeZero cfg lo hi = true)
    (hmods : decodeMods lo hi = mods) (hsdst : field lo 0 8 = sdst.code) (hsrc0 : field hi 0 9 = src0.code)
    (hsrc1 : field hi 9 9 = src1.code) : decodeVop3 cfg lo hi = .ok i := by
  obtain ⟨row, hrow, hop, hbuild⟩ := hsel
  rw [Instr.WellFormed, Instr.check, hform, admitForm_vop3] at hwf
  obtain ⟨hadmit0, hadmit1, hadmitDest, hscalars⟩ := hwf
  have hnot0 : ∀ x, src0 = .literal x → none = some x := by rintro x rfl; cases admitSrc_literal hadmit0
  have hnot1 : ∀ x, src1 = .literal x → none = some x := by rintro x rfl; cases admitSrc_literal hadmit1
  simp only [decodeVop3, if_neg hscope, hzero, hrow, Except.bind, hop, hsrc0, hsrc1, hsdst, hmods,
    decodeSrc_of_admitted hadmit0 hnot0, decodeSrc_of_admitted hadmit1 hnot1, parseSdst_eq_ok.mpr rfl, hadmitDest, hscalars,
    passing_none, Bool.not_true, Bool.false_eq_true, if_false]
  rw [← hform, hbuild]

/-- A VOPC word without a literal is decoded by itself (30_encoding.md R79). -/
theorem decode_vopc_alone {cfg : Config} (hmap : ¬ (cfg.version = .v1_2 ∧ cfg.gcn12Map = [])) {w : Word}
    (henc : field w 25 7 = 0x3E) (hsrc0 : field w 0 9 ≠ 255) (rest : List Byte) :
    decode cfg (bytesOfWord w ++ rest) = withRest (decodeVopc cfg w none) rest := by
  simp only [decode, if_neg hmap, takeWord_bytesOfWord, if_pos henc, if_neg hsrc0]

/-- A VOPC word with a literal is decoded with the word behind it (30_encoding.md R79, R86). -/
theorem decode_vopc_literal {cfg : Config} (hmap : ¬ (cfg.version = .v1_2 ∧ cfg.gcn12Map = [])) {w : Word}
    (henc : field w 25 7 = 0x3E) (hsrc0 : field w 0 9 = 255) (x : Word) (rest : List Byte) :
    decode cfg (bytesOfWord w ++ (bytesOfWord x ++ rest)) = withRest (decodeVopc cfg w (some x)) rest := by
  simp only [decode, if_neg hmap, takeWord_bytesOfWord, if_pos henc, if_pos hsrc0]

/-- Under every configuration with a map, a VOP3 word with a second word behind it is decoded as the pair (30_encoding.md R79). -/
theorem decode_vop3_pair {cfg : Config} (hmap : ¬ (cfg.version = .v1_2 ∧ cfg.gcn12Map = [])) {lo : Word}
    (henc : field lo 26 6 = 0x34) (hi : Word) (rest : List Byte) :
    decode cfg (bytesOfWord lo ++ (bytesOfWord hi ++ rest)) = withRest (decodeVop3 cfg lo hi) rest := by
  have hnot : field lo 25 7 ≠ 0x3E := by
    simp only [field] at henc ⊢
    omega
  simp only [decode, if_neg hmap, takeWord_bytesOfWord, if_neg hnot, if_pos henc]

/-- The words of a well-formed instruction in the VOPC form, under a number that selects it, decode to it. -/
theorem decode_vopcWords {cfg : Config} (hmap : ¬ (cfg.version = .v1_2 ∧ cfg.gcn12Map = [])) {op : Nat} {i : Instr} {src0 : Src}
    {vsrc1 : VgprNum} (hform : i.form = .vopc src0 vsrc1) (hwf : i.WellFormed cfg) (hsel : Selects cfg op i) (hop : op < 256)
    (rest : List Byte) :
    decode cfg ((vopcWord src0.code vsrc1 op :: src0.literalWords).flatMap bytesOfWord ++ rest) = .ok (i, rest) := by
  have hadmit := hwf
  rw [Instr.WellFormed, Instr.check, hform, admitForm_vopc] at hadmit
  obtain ⟨hcode, hliteral⟩ := Src.code_of_admitted hadmit.1
  obtain ⟨hsrc0, hvsrc1, hopcode, henc⟩ := vopcWord_fields hcode vsrc1.isLt hop
  have hvopc : ∀ lit, (∀ x, src0 = .literal x → lit = some x) → decodeVopc cfg (vopcWord src0.code vsrc1 op) lit = .ok i :=
    fun lit hlit => decodeVopc_of_fields hform hwf hlit (hopcode.symm ▸ hsel) hsrc0 hvsrc1
  rw [List.flatMap_cons, List.append_assoc]
  cases src0 with
  | literal x =>
    simp only [Src.literalWords, List.flatMap_cons, List.flatMap_nil, List.append_nil]
    rw [decode_vopc_literal hmap henc hsrc0, hvopc _ fun _ h => congrArg some (Src.literal.inj h)]
    rfl
  | _ =>
    rw [decode_vopc_alone hmap henc (by rw [hsrc0, Ne, hliteral]; exact Bool.false_ne_true), hvopc none fun _ h => by cases h]
    rfl

/-- A VOP3 instruction's number fits its destination field (30_encoding.md R90). -/
theorem Sdst.code_lt (sdst : Sdst) : sdst.code < 256 := by
  cases sdst with
  | pair n => exact n.isLt.trans (by decide)
  | vcc => decide

/-- The sources of a well-formed VOP3 form fit their fields (30_encoding.md R81). -/
theorem vop3_codes_lt {cfg : Config} {i : Instr} {sdst : Sdst} {mods : Mods} {src0 src1 : Src}
    (hform : i.form = .vop3 sdst mods src0 src1) (hwf : i.WellFormed cfg) : src0.code < 512 ∧ src1.code < 512 := by
  rw [Instr.WellFormed, Instr.check, hform, admitForm_vop3] at hwf
  obtain ⟨hadmit0, hadmit1, -⟩ := hwf
  exact ⟨(Src.code_of_admitted hadmit0).1, (Src.code_of_admitted hadmit1).1⟩

/-- Every opcode is below 256 (30_encoding.md R78). -/
theorem Instr.opcode_lt (i : Instr) : i.opcode < 256 := by
  obtain ⟨row, hrow, hop, -⟩ := findRow_opcode i
  have hlisted : row.opcode ∈ opcodeRows.map OpcodeRow.opcode := List.mem_map_of_mem (List.mem_of_find?_eq_some hrow)
  simp only [opcodeRows_map_opcode, List.mem_append, List.mem_range'_1] at hlisted
  omega

/-- A configuration of GCN 1.0 or 1.1 is not one of the empty map. -/
theorem not_emptyMap_of_mapped {cfg : Config} (hcfg : cfg.mapped) : ¬ (cfg.version = .v1_2 ∧ cfg.gcn12Map = []) :=
  fun h => hcfg h.1

/-- Settles O1: the decoder answers the instruction on its words, in each of the two forms. -/
theorem decodeOfEncodeIsIdentity : Obligations.DecodeOfEncodeIsIdentity := by
  intro cfg i rest hcfg hwf
  have hmap := not_emptyMap_of_mapped hcfg
  have hop := i.opcode_lt
  cases hform : i.form with
  | vopc src0 vsrc1 =>
    simp only [encode, encodeWords, hform]
    exact decode_vopcWords hmap hform hwf (selects_opcode hcfg i) hop rest
  | vop3 sdst mods src0 src1 =>
    obtain ⟨h0, h1⟩ := vop3_codes_lt hform hwf
    obtain ⟨hsdst, ha0, ha1, h10, h11, hopcode, henc⟩ := vop3Lo_fields mods sdst.code_lt (show i.opcode < 512 by omega)
    obtain ⟨hsrc0, hsrc1, h18, h27, hn0, hn1, h31⟩ := vop3Hi_fields mods h0 h1
    rw [← vop3Opcode_mapped hcfg] at hopcode
    simp only [encode, encodeWords, hform, List.flatMap_cons, List.flatMap_nil, List.append_nil, List.append_assoc]
    rw [decode_vop3_pair hmap henc, decodeVop3_of_fields hform hwf (hopcode.symm ▸ selects_opcode hcfg i) (by omega)
      ((mustBeZero_mapped hcfg).mpr ⟨h10, h11, h18, h27, h31⟩) (decodeMods_eq ha0 ha1 hn0 hn1) hsdst hsrc0 hsrc1]
    rfl

/-- Settles O4: as on GCN 1.0 and 1.1, with the number that the configured map sends to the instruction in the OPCODE field. -/
theorem gcn12LayoutRoundTrips : Obligations.Gcn12LayoutRoundTrips := by
  intro cfg i op rest hversion hlookup hop hwf
  have hmap : ¬ (cfg.version = .v1_2 ∧ cfg.gcn12Map = []) := fun h => by simp [h.2] at hlookup
  have hsel := selects_of_lookup hversion hlookup
  cases hform : i.form with
  | vopc src0 vsrc1 =>
    rw [hform] at hop
    simp only [encodeWords12, hform]
    exact decode_vopcWords hmap hform hwf hsel hop rest
  | vop3 sdst mods src0 src1 =>
    rw [hform] at hop
    obtain ⟨h0, h1⟩ := vop3_codes_lt hform hwf
    obtain ⟨hsdst, ha0, ha1, h10, h11, hopcode, henc⟩ := vop3Lo12_fields mods sdst.code_lt hop
    obtain ⟨hsrc0, hsrc1, h18, h27, hn0, hn1, h31⟩ := vop3Hi_fields mods h0 h1
    rw [← show vop3Opcode cfg _ = field _ 16 10 from if_pos hversion] at hopcode
    simp only [encodeWords12, hform, List.flatMap_cons, List.flatMap_nil, List.append_nil, List.append_assoc]
    rw [decode_vop3_pair hmap henc, decodeVop3_of_fields hform hwf (hopcode.symm ▸ hsel) (fun h => h.1 hversion)
      ((mustBeZero_gcn12 hversion).mpr ⟨h10, h11, h18, h27, h31⟩) (decodeMods_eq ha0 ha1 hn0 hn1) hsdst hsrc0 hsrc1]
    rfl


/-! What an answer of the decoder says of the bytes (30_encoding.md R79, R100). -/

/-- A decoded source was parsed from the code and admitted. -/
theorem decodeSrc_eq_ok {cfg : Config} {w : Width} {litOk mask : Bool} {code : Nat} {lit : Option Word} {src : Src}
    (h : decodeSrc cfg w litOk mask code lit = .ok src) : parseSrc code lit = .ok src ∧ admitSrc cfg w litOk mask src = none := by
  obtain ⟨src', hparse, hpass⟩ := except_bind_eq_ok.mp h
  obtain ⟨hadmit, rfl⟩ := passing_eq_ok.mp hpass
  exact ⟨hparse, hadmit⟩

/-- Under every configuration, what a VOPC word decodes to is well-formed, with the source that its SRC0 field names. -/
theorem decodeVopc_wellFormed {cfg : Config} {w : Word} {lit : Option Word} {i : Instr} (h : decodeVopc cfg w lit = .ok i) :
    i.WellFormed cfg ∧ ∃ src0 vsrc1, i.form = .vopc src0 vsrc1 ∧ parseSrc (field w 0 9) lit = .ok src0 := by
  obtain ⟨row, hrow, h⟩ := except_bind_eq_ok.mp h
  obtain ⟨src0, hsrc0, h⟩ := except_bind_eq_ok.mp h
  obtain ⟨hadmit1, rfl⟩ := passing_eq_ok.mp h
  obtain ⟨hparse, hadmit0⟩ := decodeSrc_eq_ok hsrc0
  obtain ⟨hop, hform⟩ := selectRow_build hrow (.vopc src0 ⟨field w 9 8, field_lt w 9 8⟩)
  refine ⟨?_, src0, _, hform, hparse⟩
  rw [Instr.WellFormed, Instr.check, hop, hform, admitForm_vopc]
  exact ⟨hadmit0, hadmit1⟩

/-- Under every configuration, what a VOP3 word pair decodes to is well-formed, with zeros where zeros must be and the operands that
the fields name. -/
theorem decodeVop3_wellFormed {cfg : Config} {lo hi : Word} {i : Instr} (h : decodeVop3 cfg lo hi = .ok i) :
    i.WellFormed cfg ∧ mustBeZero cfg lo hi = true ∧ ∃ sdst src0 src1, i.form = .vop3 sdst (decodeMods lo hi) src0 src1 ∧
      sdst.code = field lo 0 8 ∧ src0.code = field hi 0 9 ∧ src1.code = field hi 9 9 := by
  unfold decodeVop3 at h
  split_ifs at h with hscope hzero
  obtain ⟨row, hrow, h⟩ := except_bind_eq_ok.mp h
  obtain ⟨src0, hsrc0, h⟩ := except_bind_eq_ok.mp h
  obtain ⟨src1, hsrc1, h⟩ := except_bind_eq_ok.mp h
  obtain ⟨parsed, hparsed, h⟩ := except_bind_eq_ok.mp h
  obtain ⟨sdst, hsdst, h⟩ := except_bind_eq_ok.mp h
  obtain ⟨hadmitDest, rfl⟩ := passing_eq_ok.mp hsdst
  obtain ⟨hscalars, rfl⟩ := passing_eq_ok.mp h
  obtain ⟨hop, hform⟩ := selectRow_build hrow (.vop3 parsed (decodeMods lo hi) src0 src1)
  refine ⟨?_, by simpa using hzero, parsed, src0, src1, hform, parseSdst_eq_ok.mp hparsed, decodeSrc_code hsrc0,
    decodeSrc_code hsrc1⟩
  rw [Instr.WellFormed, Instr.check, hop, hform, admitForm_vop3]
  exact ⟨(decodeSrc_eq_ok hsrc0).2, (decodeSrc_eq_ok hsrc1).2, hadmitDest, hscalars⟩

/-- A VOPC word that decodes, with the literal it carries, is the encoding of what it decodes to. -/
theorem encode_of_decodeVopc {cfg : Config} (hcfg : cfg.mapped) {w : Word} (henc : field w 25 7 = 0x3E) {lit : Option Word}
    {i : Instr} (h : decodeVopc cfg w lit = .ok i) :
    encodeWords i = w :: if field w 0 9 = 255 then lit.toList else [] := by
  obtain ⟨-, src0, vsrc1, hform, hparse⟩ := decodeVopc_wellFormed h
  obtain ⟨hop, src0', vsrc1', hform', -, hvsrc1⟩ := decodeVopc_eq_ok hcfg h
  obtain ⟨rfl, rfl⟩ := Form.vopc.inj (hform.symm.trans hform')
  obtain ⟨hcode, hlit⟩ := parseSrc_literal hparse
  simp only [encodeWords, hform, parseSrc_code hparse, hvsrc1, hop, vopcWord_of_fields henc]
  cases src0 with
  | literal x => rw [if_pos (hcode.mpr rfl), hlit x rfl]; rfl
  | _ => rw [if_neg fun h => by cases hcode.mp h]; rfl

/-- A VOP3 word pair that decodes is the encoding of what it decodes to. -/
theorem encode_of_decodeVop3 {cfg : Config} (hcfg : cfg.mapped) {lo hi : Word} (henc : field lo 26 6 = 0x34) {i : Instr}
    (h : decodeVop3 cfg lo hi = .ok i) : encodeWords i = [lo, hi] := by
  obtain ⟨-, hzero, sdst, src0, src1, hform, hsdst, hsrc0, hsrc1⟩ := decodeVop3_wellFormed h
  obtain ⟨h10, h11, h18, h27, h31⟩ := (mustBeZero_mapped hcfg).mp hzero
  obtain ⟨hop, -⟩ := decodeVop3_eq_ok hcfg h
  simp only [encodeWords, hform, hsdst, hop, hsrc0, hsrc1, vop3Lo_of_fields henc h10 h11, vop3Hi_of_fields h18 h27 h31]

/-- Settles O2: in each case of `decode_eq_ok` the words read are the instruction's words. -/
theorem encodeOfDecodeGivesBytesBack : Obligations.EncodeOfDecodeGivesBytesBack := by
  intro cfg bytes rest i hcfg h
  obtain ⟨w, tail, hw, hcases⟩ := decode_eq_ok h
  obtain rfl := takeWord_eq_some hw
  obtain ⟨henc, hsrc0, lit, hlit, hi⟩ | ⟨henc, hsrc0, rfl, hi⟩ | ⟨-, henc, hi, hnext, hi'⟩ := hcases
  · simp [encode, encode_of_decodeVopc hcfg henc hi, hsrc0, takeWord_eq_some hlit]
  · simp [encode, encode_of_decodeVopc hcfg henc hi, hsrc0]
  · simp [encode, encode_of_decodeVop3 hcfg henc hi', takeWord_eq_some hnext]

/-- Every instruction is one or two words long (10_state.md R29). -/
theorem Form.length_eq (form : Form) : form.length = 4 ∨ form.length = 8 := by
  cases form with
  | vopc src0 _ => cases h : src0.isLiteral <;> simp [Form.length, h]
  | vop3 => exact .inr rfl

/-- A VOPC instruction is two words long exactly if SRC0 is the literal (30_encoding.md R79). -/
theorem length_of_decodeVopc {cfg : Config} {w : Word} {lit : Option Word} {i : Instr} (h : decodeVopc cfg w lit = .ok i) :
    i.form.length = if field w 0 9 = 255 then 8 else 4 := by
  obtain ⟨-, src0, vsrc1, hform, hparse⟩ := decodeVopc_wellFormed h
  simp only [hform, Form.length, (parseSrc_literal hparse).1]

/-- Settles O3: in each case of `decode_eq_ok` the instruction is well-formed and as long as the words read. -/
theorem decodedInstructionIsWellFormed : Obligations.DecodedInstructionIsWellFormed := by
  intro cfg bytes rest i h
  obtain ⟨w, tail, hw, hcases⟩ := decode_eq_ok h
  have hbytes := takeWord_length hw
  obtain ⟨-, hsrc0, lit, hlit, hi⟩ | ⟨-, hsrc0, rfl, hi⟩ | ⟨-, -, hi, hnext, hi'⟩ := hcases
  · have htail := takeWord_length hlit
    have hlength := length_of_decodeVopc hi
    rw [if_pos hsrc0] at hlength
    exact ⟨(decodeVopc_wellFormed hi).1, by omega, i.form.length_eq⟩
  · have hlength := length_of_decodeVopc hi
    rw [if_neg hsrc0] at hlength
    exact ⟨(decodeVopc_wellFormed hi).1, by omega, i.form.length_eq⟩
  · have htail := takeWord_length hnext
    obtain ⟨hwf, -, sdst, src0, src1, hform, -⟩ := decodeVop3_wellFormed hi'
    have hlength : i.form.length = 8 := by rw [hform]; rfl
    exact ⟨hwf, by omega, i.form.length_eq⟩

/-! Refused words (30_encoding.md R97 to R99, R76). -/

/-- A VOPC word with an unlisted opcode is refused before its operands are read (30_encoding.md R97, R99). -/
theorem decodeVopc_unlisted {cfg : Config} (hcfg : cfg.mapped) {w : Word} (h : unlistedOp (field w 17 8) = true)
    (lit : Option Word) : decodeVopc cfg w lit = .error .unlistedOpcode := by
  rw [decodeVopc, selectRow_unlisted hcfg h]
  rfl

/-- Settles O7: the map has no row for exactly the unlisted opcodes (`findRow_eq_none`), and a word with one finds no row. -/
theorem unlistedOpcodesRefused : Obligations.UnlistedOpcodesRefused := by
  refine ⟨fun op => findRow_eq_none, fun cfg w tail hcfg henc hop htail => ?vopc, fun cfg lo hi rest hcfg henc hzero hop => ?vop3⟩
  case vopc =>
    have hmap := not_emptyMap_of_mapped hcfg
    by_cases hsrc0 : field w 0 9 = 255
    · cases hnext : takeWord tail with
      | none => have := takeWord_eq_none.mp hnext; have := htail hsrc0; omega
      | some next =>
        rw [takeWord_eq_some hnext, decode_vopc_literal hmap henc hsrc0, decodeVopc_unlisted hcfg hop]
        rfl
    · rw [decode_vopc_alone hmap henc hsrc0, decodeVopc_unlisted hcfg hop]
      rfl
  case vop3 =>
    have hlt : field lo 17 9 < 256 := by simp only [unlistedOp, decide_eq_true_eq] at hop; omega
    rw [decode_vop3 hcfg henc, decodeVop3, vop3Opcode_mapped hcfg, if_neg (by omega), hzero, selectRow_unlisted hcfg hop]
    rfl

/-- Settles O8: a non-zero field fails `mustBeZero`, which is checked before the opcode's row. -/
theorem mustBeZeroBitsRefused : Obligations.MustBeZeroBitsRefused := by
  intro cfg lo hi rest hcfg henc hop hbits
  have hzero : mustBeZero cfg lo hi = false := by
    rw [Bool.eq_false_iff, Ne, mustBeZero_mapped hcfg]
    omega
  rw [decode_vop3 hcfg henc, decodeVop3, vop3Opcode_mapped hcfg, if_neg (by omega), hzero]
  rfl

/-- Settles O9, by running the decoder on each word. -/
theorem specWordsDecode : Obligations.SpecWordsDecode := by
  refine ⟨?_, ?_, ?_, ?_, ?_, ?_⟩
  all_goals rfl

/-- Settles O14: the version is the decoder's first check, and a step that fetches refuses with the decoder's label. -/
theorem gcn12EmptyMapRefusesAll : Obligations.Gcn12EmptyMapRefusesAll := by
  have hdecode : ∀ (cfg : Config) (bytes : List Byte), cfg.version = .v1_2 → cfg.gcn12Map = [] →
      decode cfg bytes = .error .gcn12OpcodeMapEmpty := fun cfg bytes hversion hmap => if_pos ⟨hversion, hmap⟩
  refine ⟨hdecode, fun s hversion hmap hfetch => ?_⟩
  simp [step, hfetch, fetchInstr, hdecode _ _ hversion hmap, Except.map]

end Sys2Proof
end

section
/-! Proofs about the sources of an instruction and about the reset state: which bits and which registers an operand reads
(30_encoding.md R81 to R88, 10_state.md R31), and what reset leaves (10_state.md R32, 70_reset_and_hazards.md R541). -/

namespace Sys2Proof.Machine

/-! The bits of a source. -/

/-- The bits of the low half of a mask register (10_state.md R28). -/
theorem lowHalf_getLsbD (d : LaneMask) {k : Nat} (hk : k < 32) : (lowHalf d).getLsbD k = d.getLsbD k := by
  simp [lowHalf, hk]

/-- The bits of the high half of a mask register (10_state.md R28). -/
theorem highHalf_getLsbD (d : LaneMask) {k : Nat} (hk : k < 32) : (highHalf d).getLsbD k = d.getLsbD (32 + k) := by
  simp [highHalf, hk]

/-- The low bits of a register pair are the lower-numbered register's (10_state.md R22). -/
theorem pairValue_getLsbD_low (hi lo : Word) {k : Nat} (hk : k < 32) : (pairValue hi lo).getLsbD k = lo.getLsbD k := by
  simp only [pairValue, BitVec.getLsbD_append, hk, if_true]

/-- The high bits of a register pair are the next register's (10_state.md R22). -/
theorem pairValue_getLsbD_high (hi lo : Word) (k : Nat) : (pairValue hi lo).getLsbD (32 + k) = hi.getLsbD k := by
  simp only [pairValue, BitVec.getLsbD_append, show ¬ 32 + k < 32 by omega, if_false, Nat.add_sub_cancel_left]

/-- Settles O10: each code is parsed to the constant it names, whose pattern the fetch gives. -/
theorem inlineConstantPatterns : Obligations.InlineConstantPatterns := by
  intro s L
  refine ⟨fun k hk => ⟨_, parseSrc_nonneg hk none, ?_⟩, fun k hpos hk => ⟨_, parseSrc_neg hpos hk none, ?_⟩, fun k x hkx => ?_⟩
  · simp [fetch32]
  · interval_cases k <;> rfl
  · simp only [List.mem_cons, Prod.mk.injEq, List.not_mem_nil, or_false] at hkx
    rcases hkx with ⟨rfl, rfl⟩ | ⟨rfl, rfl⟩ | ⟨rfl, rfl⟩ | ⟨rfl, rfl⟩ | ⟨rfl, rfl⟩ | ⟨rfl, rfl⟩ | ⟨rfl, rfl⟩ | ⟨rfl, rfl⟩
    all_goals exact ⟨_, rfl, rfl⟩

/-- Settles O11, by the bits of the two halves of a mask register. -/
theorem specialScalarSources : Obligations.SpecialScalarSources := fun s _ _ hk =>
  ⟨lowHalf_getLsbD s.vcc hk, highHalf_getLsbD s.vcc hk, lowHalf_getLsbD s.execMask hk, highHalf_getLsbD s.execMask hk, rfl,
    fun _ => rfl⟩

/-- Settles O12, by the bits of a register pair. -/
theorem pairsAreLowFirst : Obligations.PairsAreLowFirst := fun _ _ k hk =>
  ⟨fun _ => ⟨pairValue_getLsbD_low _ _ hk, pairValue_getLsbD_high _ _ k⟩,
    fun _ => ⟨pairValue_getLsbD_low _ _ hk, pairValue_getLsbD_high _ _ k⟩, rfl, rfl⟩

/-- Settles O28, source by source: a 32-bit source asks for its own register, a 64-bit one for both of its pair. -/
theorem sourcesThatNeedAValue : Obligations.SourcesThatNeedAValue := fun _ _ =>
  ⟨fun _ => ⟨rfl, Bool.and_eq_true_iff⟩, fun _ => ⟨rfl, Bool.and_eq_true_iff⟩, ⟨rfl, rfl, Bool.and_eq_true_iff⟩, rfl, rfl, rfl, rfl,
    fun _ => ⟨rfl, rfl⟩, fun _ => ⟨rfl, rfl⟩, fun _ => rfl⟩

/-! The reset state. -/

/-- Every SGPR reads 0 at reset, one outside the file included (logs 1, 17). -/
theorem reset_sgpr (n : Nat) : State.reset.sgpr n = 0#32 := by
  unfold State.sgpr State.reset
  split_ifs <;> simp

/-- Every lane of every VGPR reads 0 at reset, one outside the file included (logs 2, 17). -/
theorem reset_vgpr (n L : Nat) : State.reset.vgpr n L = 0#32 := by
  unfold State.vgpr State.reset
  split_ifs <;> simp

/-- Settles O30: the fields that say which registers hold a value are all true at reset (log 4). -/
theorem allHoldAtReset : Obligations.AllHoldAtReset where
  sgprs n hn := by simp [State.sgprHolds, State.reset, hn]
  vgprs n L hn hL := by
    simp only [State.vgprHolds, State.reset, hn, dif_pos, Vector.getElem_replicate, BitVec.getLsbD_allOnes, hL, decide_true]
  vccLo := rfl
  vccHi := rfl
  m0 := rfl

/-- Settles O50: the register files by `reset_sgpr` and `reset_vgpr`, each other field as `State.reset` has it. -/
theorem resetValues : Obligations.ResetValues :=
  ⟨rfl, rfl, rfl, fun _ => rfl, rfl, rfl, rfl, reset_sgpr, reset_vgpr, rfl, rfl, rfl, rfl, rfl, rfl, rfl, rfl⟩

/-- A launch starts in the states of a run: the pc stands at the aligned base (70_reset_and_hazards.md R541). -/
theorem Launch.launched {s : State} (h : Launch s) : Launched s where
  base_aligned := h.base_aligned
  placed := h.placed
  pc_aligned := h.pc_at_base ▸ h.base_aligned
  base_le_pc := h.pc_at_base.ge
  pc_le_end := h.pc_at_base.le.trans (Nat.le_add_right _ _)

/-- Settles O52: the empty program stands at base 0, where the pc is, and SIGNAL is 0 (log 5). -/
theorem resetIsALaunch : Obligations.ResetIsALaunch := ⟨rfl, rfl, rfl, rfl⟩

/-- Settles O51: the reset state is a launch. -/
theorem launchedHoldsAtReset : Obligations.LaunchedHoldsAtReset := resetIsALaunch.launched

end Sys2Proof.Machine
end

section
/-! Proofs about floating-point patterns: a pattern without its top bit as a magnitude, the order of the exact values, the
modifiers, the flush and the classes (40_vopc_common.md R123, R128 to R136). -/

namespace Sys2Proof.Machine

/-- A pattern of `n` bits is a sign above an exponent above a fraction, none of them empty (40_vopc_common.md R128). -/
structure FpFormat.HasBits (fmt : FpFormat) (n : Nat) : Prop where
  bits : n = fmt.expBits + fmt.fracBits + 1
  exp_pos : 0 < fmt.expBits
  frac_pos : 0 < fmt.fracBits

theorem binary32_hasBits : binary32.HasBits 32 := ⟨rfl, by decide, by decide⟩

theorem binary64_hasBits : binary64.HasBits 64 := ⟨rfl, by decide, by decide⟩

/-! The magnitude of a pattern: all bits but the top one. -/

/-- The exponent is the magnitude's upper part. -/
theorem fpExp_eq_div {n : Nat} (fmt : FpFormat) (x : BitVec n) :
    fpExp fmt x = x.toNat % 2 ^ (fmt.expBits + fmt.fracBits) / 2 ^ fmt.fracBits := by
  rw [fpExp, Nat.add_comm, Nat.pow_add, Nat.mod_mul_right_div_self]

/-- The fraction is the magnitude's lower part. -/
theorem fpFrac_eq_mod {n : Nat} (fmt : FpFormat) (x : BitVec n) :
    fpFrac fmt x = x.toNat % 2 ^ (fmt.expBits + fmt.fracBits) % 2 ^ fmt.fracBits := by
  rw [fpFrac, Nat.mod_mod_of_dvd _ (Nat.pow_dvd_pow 2 (Nat.le_add_left ..))]

/-- The exponent and the fraction make up the magnitude. -/
theorem exp_mul_add_frac {n : Nat} (fmt : FpFormat) (x : BitVec n) :
    2 ^ fmt.fracBits * fpExp fmt x + fpFrac fmt x = x.toNat % 2 ^ (fmt.expBits + fmt.fracBits) := by
  rw [fpExp_eq_div, fpFrac_eq_mod, Nat.div_add_mod]

/-- A pattern is no NaN exactly if its magnitude is at most that of an infinity (40_vopc_common.md R129). -/
theorem isNaN_eq_false {n : Nat} (fmt : FpFormat) (x : BitVec n) : isNaN fmt x = false ↔
    x.toNat % 2 ^ (fmt.expBits + fmt.fracBits) ≤ fpExpMax fmt * 2 ^ fmt.fracBits := by
  have hsum := exp_mul_add_frac fmt x
  have hfrac : fpFrac fmt x < 2 ^ fmt.fracBits := Nat.mod_lt _ (Nat.two_pow_pos _)
  obtain hmax | hlt : fpExp fmt x = fpExpMax fmt ∨ fpExp fmt x + 1 ≤ fpExpMax fmt := by
    have := fpExp_le_max fmt x
    omega
  · rw [← hsum, hmax, Nat.mul_comm]
    simp [isNaN, hmax]
  · have hle := Nat.mul_le_mul_left (2 ^ fmt.fracBits) hlt
    rw [Nat.mul_add, Nat.mul_comm _ (fpExpMax fmt)] at hle
    simp only [isNaN, show (fpExp fmt x == fpExpMax fmt) = false by simp; omega, Bool.false_and, true_iff]
    omega

/-- A pattern is denormalized exactly if its magnitude is below the least normal one and not zero (40_vopc_common.md R128). -/
theorem isDenorm_eq_true {n : Nat} (fmt : FpFormat) (x : BitVec n) : isDenorm fmt x = true ↔
    0 < x.toNat % 2 ^ (fmt.expBits + fmt.fracBits) ∧ x.toNat % 2 ^ (fmt.expBits + fmt.fracBits) < 2 ^ fmt.fracBits := by
  have hpos := Nat.two_pow_pos fmt.fracBits
  simp only [isDenorm, Bool.and_eq_true, beq_iff_eq, bne_iff_ne, fpExp_eq_div, fpFrac_eq_mod]
  constructor
  · rintro ⟨hexp, hfrac⟩
    have hlt := (Nat.div_eq_zero_iff_lt hpos).mp hexp
    rw [Nat.mod_eq_of_lt hlt] at hfrac
    exact ⟨Nat.pos_of_ne_zero hfrac, hlt⟩
  · rintro ⟨hne, hlt⟩
    rw [Nat.mod_eq_of_lt hlt]
    exact ⟨Nat.div_eq_of_lt hlt, hne.ne'⟩

/-! The order of the exact values (40_vopc_common.md R132). -/

/-- The exact value, in units of the least denormal, of the pattern with magnitude `m` and no sign. -/
def magnitudeValue (fmt : FpFormat) (m : Nat) : Nat :=
  if m / 2 ^ fmt.fracBits = 0 then m % 2 ^ fmt.fracBits
  else (2 ^ fmt.fracBits + m % 2 ^ fmt.fracBits) * 2 ^ (m / 2 ^ fmt.fracBits - 1)

/-- The model's magnitude of a pattern is the value of its magnitude bits. -/
theorem fpMagnitude_eq {n : Nat} (fmt : FpFormat) (x : BitVec n) :
    fpMagnitude fmt x = magnitudeValue fmt (x.toNat % 2 ^ (fmt.expBits + fmt.fracBits)) := by
  simp only [fpMagnitude, magnitudeValue, fpExp_eq_div, fpFrac_eq_mod]

/-- The value of a magnitude given as exponent and fraction. -/
theorem magnitudeValue_mul_add (fmt : FpFormat) (e : Nat) {f : Nat} (hf : f < 2 ^ fmt.fracBits) :
    magnitudeValue fmt (2 ^ fmt.fracBits * e + f) = if e = 0 then f else (2 ^ fmt.fracBits + f) * 2 ^ (e - 1) := by
  rw [magnitudeValue, Nat.mul_add_div (Nat.two_pow_pos _), Nat.div_eq_of_lt hf, Nat.mul_add_mod, Nat.mod_eq_of_lt hf, Nat.add_zero]

/-- A larger magnitude has a larger value: one step up either raises the fraction or carries into the exponent. -/
theorem magnitudeValue_strictMono (fmt : FpFormat) : StrictMono (magnitudeValue fmt) := by
  refine strictMono_nat_of_lt_succ fun m => ?_
  have hpos := Nat.two_pow_pos fmt.fracBits
  obtain ⟨e, f, hf, rfl⟩ : ∃ e f, f < 2 ^ fmt.fracBits ∧ m = 2 ^ fmt.fracBits * e + f :=
    ⟨_, _, Nat.mod_lt m hpos, (Nat.div_add_mod m _).symm⟩
  rw [magnitudeValue_mul_add fmt e hf]
  by_cases hcarry : f + 1 < 2 ^ fmt.fracBits
  · rw [Nat.add_assoc, magnitudeValue_mul_add fmt e hcarry]
    split_ifs
    · exact Nat.lt_succ_self f
    · exact Nat.mul_lt_mul_of_pos_right (by omega) (Nat.two_pow_pos _)
  · have hnext : 2 ^ fmt.fracBits * e + f + 1 = 2 ^ fmt.fracBits * (e + 1) + 0 := by
      rw [Nat.mul_add]
      omega
    rw [hnext, magnitudeValue_mul_add fmt (e + 1) hpos, if_neg e.succ_ne_zero, Nat.add_zero, Nat.add_sub_cancel]
    obtain rfl | ⟨e, rfl⟩ : e = 0 ∨ ∃ k, e = k + 1 := by cases e <;> simp
    · simpa using hf
    · rw [if_neg e.succ_ne_zero, Nat.add_sub_cancel, Nat.pow_succ, Nat.mul_comm (2 ^ e) 2, ← Nat.mul_assoc]
      exact Nat.mul_lt_mul_of_pos_right (by omega) (Nat.two_pow_pos _)

/-- A magnitude with a sign. -/
def withSign (negative : Bool) (m : Nat) : Int := if negative then -m else m

/-- A strictly rising function that fixes 0, applied to the magnitudes, keeps the order of signed numbers. -/
theorem withSign_lt_iff {g : Nat → Nat} (hg : StrictMono g) (hzero : g 0 = 0) (p q : Bool) (a b : Nat) :
    withSign p (g a) < withSign q (g b) ↔ withSign p a < withSign q b := by
  have hpos : ∀ m, 0 < g m ↔ 0 < m := fun m => by simpa only [hzero] using hg.lt_iff_lt (a := 0) (b := m)
  have ha := hpos a
  have hb := hpos b
  have hab := hg.lt_iff_lt (a := a) (b := b)
  have hba := hg.lt_iff_lt (a := b) (b := a)
  cases p <;> cases q <;> simp only [withSign, if_true, if_false, Bool.false_eq_true] <;> omega

/-- The value of a pattern is its magnitude's value with its sign. -/
theorem fpValue_eq_withSign {n : Nat} (fmt : FpFormat) (x : BitVec n) : fpValue fmt x =
    withSign (fpSign fmt x) (magnitudeValue fmt (x.toNat % 2 ^ (fmt.expBits + fmt.fracBits))) := by
  rw [fpValue, fpMagnitude_eq, withSign]

/-- A pattern read as sign and magnitude has the sign and the magnitude of its format. -/
theorem signMagnitude_eq_withSign {n : Nat} {fmt : FpFormat} (hn : fmt.HasBits n) (x : BitVec n) : signMagnitude x =
    withSign (fpSign fmt x) (x.toNat % 2 ^ (fmt.expBits + fmt.fracBits)) := by
  obtain ⟨rfl, -, -⟩ := hn
  rfl

/-- Exact values compare as the patterns do, read as sign and magnitude (40_vopc_common.md R132). -/
theorem fpValue_lt_iff {n : Nat} {fmt : FpFormat} (hn : fmt.HasBits n) (a b : BitVec n) :
    fpValue fmt a < fpValue fmt b ↔ signMagnitude a < signMagnitude b := by
  rw [fpValue_eq_withSign, fpValue_eq_withSign, signMagnitude_eq_withSign hn, signMagnitude_eq_withSign hn]
  exact withSign_lt_iff (magnitudeValue_strictMono fmt) (by simp [magnitudeValue]) ..

/-- Exact values are equal where the patterns are, read as sign and magnitude (40_vopc_common.md R132). -/
theorem fpValue_eq_iff {n : Nat} {fmt : FpFormat} (hn : fmt.HasBits n) (a b : BitVec n) :
    fpValue fmt a = fpValue fmt b ↔ signMagnitude a = signMagnitude b := by
  have hab := fpValue_lt_iff hn a b
  have hba := fpValue_lt_iff hn b a
  omega

/-- The relation of two patterns is their sign-magnitude order, but for a NaN (40_vopc_common.md R130, R132). -/
theorem fpRelation_eq_signMagnitude {n : Nat} {fmt : FpFormat} (hn : fmt.HasBits n) (a b : BitVec n) : fpRelation fmt a b =
    if isNaN fmt a || isNaN fmt b then .un
    else if signMagnitude a < signMagnitude b then .lt
    else if signMagnitude a = signMagnitude b then .eq else .gt := by
  simp only [fpRelation, fpValue_lt_iff hn, fpValue_eq_iff hn]

/-- Settles O45: the exact value is a strictly rising function of the magnitude (`magnitudeValue_strictMono`), with its sign. -/
theorem floatOrderIsSignMagnitudeOrder : Obligations.FloatOrderIsSignMagnitudeOrder :=
  ⟨fpRelation_eq_signMagnitude binary32_hasBits, fpRelation_eq_signMagnitude binary64_hasBits⟩

/-! The infinities (40_vopc_common.md R132). -/

/-- No pattern but a NaN lies beyond the infinities. -/
theorem signMagnitude_bounds {n : Nat} {fmt : FpFormat} (hn : fmt.HasBits n) {x : BitVec n} (hx : isNaN fmt x = false) :
    -(fpExpMax fmt * 2 ^ fmt.fracBits : Nat) ≤ signMagnitude x ∧ signMagnitude x ≤ (fpExpMax fmt * 2 ^ fmt.fracBits : Nat) := by
  have hle := (isNaN_eq_false fmt x).mp hx
  rw [signMagnitude_eq_withSign hn, withSign]
  split_ifs <;> omega

/-- A pattern is its magnitude, and the top bit's weight if that bit is set. -/
theorem toNat_eq_mod_add_top {n : Nat} (hn : 0 < n) (x : BitVec n) :
    x.toNat = x.toNat % 2 ^ (n - 1) + if x.getLsbD (n - 1) then 2 ^ (n - 1) else 0 := by
  obtain ⟨k, rfl⟩ := Nat.exists_eq_add_one.mpr hn
  rw [Nat.add_sub_cancel]
  rw [← BitVec.testBit_toNat, Nat.testBit_eq_decide_div_mod_eq]
  have hlt : x.toNat / 2 ^ k < 2 := by
    rw [Nat.div_lt_iff_lt_mul (Nat.two_pow_pos k)]
    simpa [Nat.pow_succ, Nat.mul_comm] using x.isLt
  have hsum := Nat.div_add_mod x.toNat (2 ^ k)
  obtain hq | hq := Nat.le_one_iff_eq_zero_or_eq_one.mp (Nat.le_of_lt_succ hlt)
  all_goals
    simp [hq] at hsum ⊢
    omega

/-- Read as sign and magnitude, two patterns that are not zeros are equal only if they are the same. -/
theorem signMagnitude_inj {n : Nat} (hn : 0 < n) {x y : BitVec n} (hy : signMagnitude y ≠ 0) :
    signMagnitude x = signMagnitude y ↔ x = y := by
  refine ⟨fun h => BitVec.eq_of_toNat_eq ?_, congrArg _⟩
  rw [toNat_eq_mod_add_top hn x, toNat_eq_mod_add_top hn y]
  unfold signMagnitude at h hy
  split_ifs at h hy ⊢ <;> omega

/-- The pattern of the least value is below every other pattern that is no NaN. -/
theorem fpRelation_of_least {n : Nat} {fmt : FpFormat} (hn : fmt.HasBits n) {inf x : BitVec n} (hinf : isNaN fmt inf = false)
    (hvalue : signMagnitude inf = -(fpExpMax fmt * 2 ^ fmt.fracBits : Nat)) (hne : signMagnitude inf ≠ 0)
    (hx : isNaN fmt x = false) : fpRelation fmt inf x = if x = inf then .eq else .lt := by
  obtain ⟨hlow, -⟩ := signMagnitude_bounds hn hx
  have hbits := hn.bits
  simp only [fpRelation_eq_signMagnitude hn, hinf, hx, ← signMagnitude_inj (show 0 < n by omega) hne, Bool.or_self,
    Bool.false_eq_true, if_false]
  by_cases heq : signMagnitude x = signMagnitude inf
  · simp [heq]
  · simp [heq, show signMagnitude inf < signMagnitude x by omega]

/-- The pattern of the largest value is above every other pattern that is no NaN. -/
theorem fpRelation_of_greatest {n : Nat} {fmt : FpFormat} (hn : fmt.HasBits n) {inf x : BitVec n} (hinf : isNaN fmt inf = false)
    (hvalue : signMagnitude inf = (fpExpMax fmt * 2 ^ fmt.fracBits : Nat)) (hne : signMagnitude inf ≠ 0)
    (hx : isNaN fmt x = false) : fpRelation fmt inf x = if x = inf then .eq else .gt := by
  obtain ⟨-, hhigh⟩ := signMagnitude_bounds hn hx
  have hbits := hn.bits
  simp only [fpRelation_eq_signMagnitude hn, hinf, hx, ← signMagnitude_inj (show 0 < n by omega) hne, Bool.or_self,
    Bool.false_eq_true, if_false]
  by_cases heq : signMagnitude x = signMagnitude inf
  · simp [heq]
  · simp [heq, Ne.symm heq, show ¬ signMagnitude inf < signMagnitude x by omega]

/-- Settles O46: the infinities have the least and the largest sign-magnitude value of the patterns that are no NaN. -/
theorem infinitiesBoundTheOrder : Obligations.InfinitiesBoundTheOrder := by
  refine ⟨fun x hx => ⟨fpRelation_of_least binary32_hasBits ?_ ?_ ?_ hx, fpRelation_of_greatest binary32_hasBits ?_ ?_ ?_ hx⟩,
    fun x hx => ⟨fpRelation_of_least binary64_hasBits ?_ ?_ ?_ hx, fpRelation_of_greatest binary64_hasBits ?_ ?_ ?_ hx⟩, ?_, ?_⟩
  all_goals decide

/-! The modifiers (40_vopc_common.md R123). -/

/-- The modifiers bit by bit: ABS clears the top bit, then NEG inverts it, and every other bit stays. -/
theorem applyMods_getLsbD {n : Nat} (abs neg : Bool) (x : BitVec n) {k : Nat} (hk : k < n) : (applyMods abs neg x).getLsbD k =
    if k = n - 1 then Bool.xor neg (x.getLsbD (n - 1) && !abs) else x.getLsbD k := by
  by_cases htop : k = n - 1
  · subst htop
    cases abs <;> cases neg <;> simp [applyMods, hk]
  · cases abs <;> cases neg <;> simp [applyMods, hk, htop]

/-- Two patterns with the same bits below the top one have the same magnitude. -/
theorem magnitude_congr {n m : Nat} {x y : BitVec n} (h : ∀ k, k < m → x.getLsbD k = y.getLsbD k) :
    x.toNat % 2 ^ m = y.toNat % 2 ^ m := by
  refine Nat.eq_of_testBit_eq fun k => ?_
  simp only [Nat.testBit_mod_two_pow, BitVec.testBit_toNat]
  by_cases hk : k < m
  · rw [h k hk]
  · simp [hk]

/-- The kind of a NaN depends on the bits below the top one alone (40_vopc_common.md R129). -/
theorem nanKind_congr {n : Nat} {fmt : FpFormat} (hn : fmt.HasBits n) {x y : BitVec n}
    (h : ∀ k, k < n - 1 → x.getLsbD k = y.getLsbD k) : isSNaN fmt x = isSNaN fmt y ∧ isQNaN fmt x = isQNaN fmt y := by
  obtain ⟨hbits, hexp, hfrac⟩ := hn
  have hmagnitude := magnitude_congr (m := fmt.expBits + fmt.fracBits) fun k hk => h k (by omega)
  simp only [isSNaN, isQNaN, isNaN, fpExp_eq_div, fpFrac_eq_mod, hmagnitude, h (fmt.fracBits - 1) (by omega), and_self]

/-- The modifiers keep a NaN's kind. -/
theorem nanKind_applyMods {n : Nat} {fmt : FpFormat} (hn : fmt.HasBits n) (abs neg : Bool) (x : BitVec n) :
    isSNaN fmt (applyMods abs neg x) = isSNaN fmt x ∧ isQNaN fmt (applyMods abs neg x) = isQNaN fmt x :=
  nanKind_congr hn fun k hk => by rw [applyMods_getLsbD abs neg x (by omega), if_neg (by omega)]

/-- Settles O44: `applyMods_getLsbD` at both widths, and that the bits below the top one decide a NaN's kind. -/
theorem modifiersActOnSignAlone : Obligations.ModifiersActOnSignAlone :=
  ⟨fun abs neg x _ hk => applyMods_getLsbD abs neg x hk, fun abs neg x _ hk => applyMods_getLsbD abs neg x hk,
    nanKind_applyMods binary32_hasBits, nanKind_applyMods binary64_hasBits⟩

/-! The flush of denormals (40_vopc_common.md R134). -/

/-- Flushing gives a denormal the zero of its sign and keeps every other pattern. -/
theorem flushDenorm_flushInputs {n : Nat} (fmt : FpFormat) (x : BitVec n) : flushDenorm .flushInputs fmt x =
    if 0 < x.toNat % 2 ^ (fmt.expBits + fmt.fracBits) ∧ x.toNat % 2 ^ (fmt.expBits + fmt.fracBits) < 2 ^ fmt.fracBits then
      (if x.getLsbD (fmt.expBits + fmt.fracBits) then BitVec.twoPow n (fmt.expBits + fmt.fracBits) else 0#n) else x := by
  simp only [flushDenorm, BitVec.and_twoPow, isDenorm_eq_true]

/-- Settles O47, by `flushDenorm_flushInputs` in both formats. -/
theorem flushGivesSignedZero : Obligations.FlushGivesSignedZero :=
  ⟨fun x => ⟨rfl, flushDenorm_flushInputs binary32 x⟩, fun x => ⟨rfl, flushDenorm_flushInputs binary64 x⟩⟩

/-- A denormal and the zero that replaces it are no NaN. -/
theorem isNaN_flushDenorm {n : Nat} {fmt : FpFormat} (hn : fmt.HasBits n) (mode : DenormMode) (x : BitVec n) :
    isNaN fmt (flushDenorm mode fmt x) = isNaN fmt x := by
  obtain ⟨hbits, hexp, hfrac⟩ := hn
  cases mode with
  | preserve => rfl
  | flushInputs =>
    rw [flushDenorm_flushInputs]
    by_cases hdenorm : 0 < x.toNat % 2 ^ (fmt.expBits + fmt.fracBits) ∧
        x.toNat % 2 ^ (fmt.expBits + fmt.fracBits) < 2 ^ fmt.fracBits
    · have hmax : 1 * 2 ^ fmt.fracBits ≤ fpExpMax fmt * 2 ^ fmt.fracBits :=
        Nat.mul_le_mul_right _ (Nat.sub_pos_of_lt (Nat.one_lt_two_pow hexp.ne'))
      rw [if_pos hdenorm, (isNaN_eq_false fmt x).mpr (by omega), isNaN_eq_false]
      split_ifs
      · rw [BitVec.toNat_twoPow, Nat.mod_eq_of_lt (Nat.pow_lt_pow_right (by decide) (by omega)), Nat.mod_self]
        exact Nat.zero_le _
      · simp
    · rw [if_neg hdenorm]

/-- Flushing keeps a signalling NaN, and makes none. -/
theorem isSNaN_flushDenorm {n : Nat} {fmt : FpFormat} (hn : fmt.HasBits n) (mode : DenormMode) (x : BitVec n) :
    isSNaN fmt (flushDenorm mode fmt x) = isSNaN fmt x := by
  cases hnan : isNaN fmt x with
  | false => simp [isSNaN, isNaN_flushDenorm hn, hnan]
  | true =>
    have hkept : flushDenorm mode fmt x = x := by
      cases mode with
      | preserve => rfl
      | flushInputs =>
        have hnot : isDenorm fmt x = false := by
          have hmax : fpExpMax fmt ≠ 0 := (Nat.sub_pos_of_lt (Nat.one_lt_two_pow hn.exp_pos.ne')).ne'
          simp only [isNaN, Bool.and_eq_true, beq_iff_eq] at hnan
          simp [isDenorm, hnan.1, hmax]
        simp [flushDenorm, hnot]
    rw [hkept]

/-! The classes (40_vopc_common.md R135). -/

/-- The class table has no row beyond the tenth. -/
theorem classRow_of_ten_le {n : Nat} (fmt : FpFormat) (x : BitVec n) {k : Nat} (hk : 10 ≤ k) : classRow fmt k x = false := by
  obtain ⟨j, rfl⟩ := Nat.exists_eq_add_of_le' hk
  rfl

/-- A pattern belongs to the row of its class, and to no other row. -/
theorem classRow_iff {n : Nat} {fmt : FpFormat} (hn : fmt.HasBits n) (x : BitVec n) (k : Nat) :
    classRow fmt k x = true ↔ k = classBit (fpClass fmt x) := by
  by_cases hk : k < 10
  · exact classRow_eq_true hn.exp_pos hn.frac_pos x hk
  · have hbit := classBit_lt (fpClass fmt x)
    simp only [classRow_of_ten_le fmt x (Nat.le_of_not_lt hk), Bool.false_eq_true, false_iff]
    omega

/-- Settles O48, by `classRow_iff` in both formats. -/
theorem everyPatternHasOneClass : Obligations.EveryPatternHasOneClass :=
  ⟨classRow_iff binary32_hasBits, classRow_iff binary64_hasBits⟩

end Sys2Proof.Machine
end

section
/-! Proofs about the meaning of an instruction: everything `exec` can answer and when, what an instruction that made its writes
leaves and keeps, and the statements on completion, faults, refusals, the frame and the equivalences between instructions
(40_vopc_common.md R120 to R141, 60_exceptions.md R500 to R506). -/

namespace Sys2Proof.Machine

/-! The signal of a lane (40_vopc_common.md R131). -/

/-- An opcode's format has as many bits as its operands. -/
theorem formatAt_hasBits (op : Nat) : (formatAt op).HasBits (opcodeWidth op).bits := by
  unfold formatAt opcodeWidth
  split_ifs
  · exact binary64_hasBits
  · exact binary32_hasBits

/-- Whether an instruction of opcode `op` signals on two operands, as the spec says it: no integer compare or class test does. -/
def opcodeSignals {n : Nat} (op : Nat) (a b : BitVec n) : Bool :=
  if op < 128 then floatSig (formatAt op) op a b else false

/-- The signalling function of an opcode is the spec's: a flush neither makes nor removes a NaN. -/
theorem laneSig_eq_opcodeSignals (cfg : Config) (op : Nat) (a b : BitVec (opcodeWidth op).bits) :
    laneSig cfg op a b = opcodeSignals op a b := by
  have hn := formatAt_hasBits op
  unfold laneSig opcodeSignals
  split_ifs with hfloat hkind
  · simp only [floatSignals, floatSig, isNaN_flushDenorm hn, if_neg (show ¬ op < 64 by omega)]
  · simp only [floatSignals, floatSig, isSNaN_flushDenorm hn, if_pos (show op < 64 by omega)]
  · rfl

/-- A lane's signal is the opcode's on the operands of the opcode's width. -/
theorem laneSignals_eq_opcodeSignals (i : Instr) (s : State) (L : Nat) : laneSignals i s L =
    opcodeSignals i.opcode (operand0 (opcodeWidth i.opcode) s i.form L) (operand1 (opcodeWidth i.opcode) s i.form L) := by
  obtain hbit | hbit : i.opcode / 32 % 2 = 0 ∨ i.opcode / 32 % 2 = 1 := by omega
  · have hwidth : opcodeWidth i.opcode = .b32 := by simp [opcodeWidth, hbit]
    rw [hwidth]
    simp only [laneSignals, opcodeSignals, formatAt, hbit, zero_ne_one, if_true, if_false]
  · have hwidth : opcodeWidth i.opcode = .b64 := by simp [opcodeWidth, hbit]
    rw [hwidth]
    simp only [laneSignals, opcodeSignals, formatAt, hbit, one_ne_zero, if_true, if_false]

/-- Where the model lets an instruction signal is where the spec does. -/
theorem sigLane_eq_laneSignals (i : Instr) (s : State) : sigLane i s = laneSignals i s := by
  funext L
  rw [laneSignals_eq_opcodeSignals, sigLane, laneSig_eq_opcodeSignals]

/-- Integer compares and class tests signal in no lane (40_vopc_common.md R131). -/
theorem laneSignals_of_not_float {i : Instr} (hop : 128 ≤ i.opcode) (s : State) (L : Nat) : laneSignals i s L = false :=
  if_neg (Nat.not_lt.mpr hop)

/-- Integer compares and class tests signal in no executing lane. -/
theorem not_someLaneSignals_of_not_float {i : Instr} (hop : 128 ≤ i.opcode) (s : State) :
    ¬ someLaneSignals s (laneSignals i s) := by
  rintro ⟨L, -, -, hsignal⟩
  rw [laneSignals_of_not_float hop] at hsignal
  cases hsignal

/-- The scan of the lanes finds a signal exactly if an executing lane signals. -/
theorem anyLane_eq_true_iff_signals (s : State) (sig : Nat → Bool) :
    anyLane (fun L => s.execMask.getLsbD L && sig L) = true ↔ someLaneSignals s sig := by
  simp only [anyLane_eq_true, Bool.and_eq_true, someLaneSignals]

/-! Everything an instruction can do. -/

/-- The state with every write of the instruction made but SIGNAL's (40_vopc_common.md R120 steps 5 to 7). -/
def doneState (i : Instr) (s : State) : State :=
  compareState s i.form (decide (i.opcode / 16 % 2 = 1)) (resultMask s (laneResult i s))

/-- The outcomes of an instruction, each with the condition under which it is the one (60_exceptions.md R505). -/
inductive Gives (i : Instr) (s : State) : Outcome → Prop where
  | rejected (why : Reject) (hcheck : i.check s.config = some why) : Gives i s (.refused (.rejected why))
  | pcOverflow (hwf : i.WellFormed s.config) (hfits : pcFits s.config (s.pc + i.form.length) = false) :
    Gives i s (.refused .pcOverflow)
  | unwritten (hwf : i.WellFormed s.config) (hfits : pcFits s.config (s.pc + i.form.length) = true) (hread : ¬ Readable i s) :
    Gives i s (.fault .unwrittenRegister)
  | done (hexec : Executes i s) (hquiet : ¬ someLaneSignals s (laneSignals i s)) : Gives i s (.next (doneState i s))
  | flagged (hexec : Executes i s) (hsignal : someLaneSignals s (laneSignals i s)) (hmode : s.config.signalMode = .flag) :
    Gives i s (.next (doneState i s).setSignal)
  | trapped (hexec : Executes i s) (hsignal : someLaneSignals s (laneSignals i s)) (hmode : s.config.signalMode = .fault) :
    Gives i s (.fault (.signal (doneState i s).setSignal))

/-- An instruction that executes ends as the signal of its lanes says. -/
theorem exec_of_executes {i : Instr} {s : State} (h : Executes i s) : exec i s =
    if anyLane fun L => s.execMask.getLsbD L && laneSignals i s L then raiseSignal (doneState i s) else .next (doneState i s) := by
  obtain ⟨hwf, hfits, hread⟩ := h
  have hadmit : admitForm s.config (opcodeWidth i.opcode) (opcodeHasMask64 i.opcode) i.form = none := hwf
  rw [doneState, ← cmpLane_eq_laneResult, ← sigLane_eq_laneSignals, ← finishCompare_eq, exec_eq_compareStep, compareStep, hadmit]
  simp only [hfits, if_true, readsUnwritten_eq_false.mpr hread, Bool.false_eq_true, if_false]
  rfl

/-- `exec` answers exactly the outcome whose condition holds. -/
theorem exec_eq_iff_gives {i : Instr} {s : State} {o : Outcome} : exec i s = o ↔ Gives i s o := by
  constructor
  · rintro rfl
    obtain ⟨why, hcheck, e⟩ | ⟨hwf, hfits, e⟩ | ⟨hwf, hfits, hread, e⟩ | ⟨hwf, hfits, hread, -⟩ := exec_cases i s
    · exact e ▸ .rejected why hcheck
    · exact e ▸ .pcOverflow hwf hfits
    · exact e ▸ .unwritten hwf hfits fun h => by rw [readsUnwritten_eq_false.mpr h] at hread; cases hread
    · have hexec : Executes i s := ⟨hwf, hfits, readsUnwritten_eq_false.mp hread⟩
      rw [exec_of_executes hexec]
      split_ifs with hsignal
      · rw [anyLane_eq_true_iff_signals] at hsignal
        cases hmode : s.config.signalMode with
        | flag =>
          rw [raiseSignal_next.mpr ⟨by simpa [doneState] using hmode, rfl⟩]
          exact .flagged hexec hsignal hmode
        | fault =>
          rw [raiseSignal_fault.mpr ⟨by simpa [doneState] using hmode, rfl⟩]
          exact .trapped hexec hsignal hmode
      · rw [anyLane_eq_true_iff_signals] at hsignal
        exact .done hexec hsignal
  · rintro (⟨why, hcheck⟩ | ⟨hwf, hfits⟩ | ⟨hwf, hfits, hread⟩ | ⟨hexec, hquiet⟩ | ⟨hexec, hsignal, hmode⟩ |
      ⟨hexec, hsignal, hmode⟩)
    · have hadmit : admitForm s.config (opcodeWidth i.opcode) (opcodeHasMask64 i.opcode) i.form = some why := hcheck
      rw [exec_eq_compareStep, compareStep, hadmit]
    · have hadmit : admitForm s.config (opcodeWidth i.opcode) (opcodeHasMask64 i.opcode) i.form = none := hwf
      simp [exec_eq_compareStep, compareStep, hadmit, hfits]
    · have hadmit : admitForm s.config (opcodeWidth i.opcode) (opcodeHasMask64 i.opcode) i.form = none := hwf
      have hreads : readsUnwritten (opcodeWidth i.opcode) s i.form = true := by
        rw [← Bool.not_eq_false, readsUnwritten_eq_false]
        exact hread
      simp [exec_eq_compareStep, compareStep, hadmit, hfits, hreads]
    · rw [exec_of_executes hexec, if_neg (by rwa [anyLane_eq_true_iff_signals])]
    · rw [exec_of_executes hexec, if_pos ((anyLane_eq_true_iff_signals ..).mpr hsignal)]
      exact raiseSignal_next.mpr ⟨by simpa [doneState] using hmode, rfl⟩
    · rw [exec_of_executes hexec, if_pos ((anyLane_eq_true_iff_signals ..).mpr hsignal)]
      exact raiseSignal_fault.mpr ⟨by simpa [doneState] using hmode, rfl⟩

/-- Settles O24: the first of the outcomes. -/
theorem illFormedInstructionRefused : Obligations.IllFormedInstructionRefused :=
  fun _ _ why hcheck => exec_eq_iff_gives.mpr (.rejected why hcheck)

/-- A finite PC_WIDTH is a bound on addresses (10_state.md R29). -/
theorem pcFits_eq_false {cfg : Config} {k a : Nat} (hwidth : cfg.pcWidth = some k) : pcFits cfg a = false ↔ 2 ^ k ≤ a := by
  simp [pcFits, hwidth]

/-- Where a higher address fits PC_WIDTH, a lower one does (10_state.md R29). -/
theorem pcFits_of_le {cfg : Config} {a b : Nat} (hab : a ≤ b) (h : pcFits cfg b = true) : pcFits cfg a = true := by
  unfold pcFits at h ⊢
  cases hwidth : cfg.pcWidth with
  | none => rfl
  | some k =>
    simp only [hwidth, decide_eq_true_eq] at h ⊢
    omega

/-- Settles O25: an address from 2^k on does not fit. -/
theorem pcOverflowRefused : Obligations.PcOverflowRefused :=
  fun _ _ _ hwf hwidth hle => exec_eq_iff_gives.mpr (.pcOverflow hwf ((pcFits_eq_false hwidth).mpr hle))

/-- An operand holds no value in an executing lane exactly if the instruction is not readable. -/
theorem not_readable_iff {i : Instr} {s : State} : ¬ Readable i s ↔
    ∃ L, L < 64 ∧ s.execMask.getLsbD L = true ∧ operandsHold (opcodeWidth i.opcode) s i.form L = false := by
  simp only [Readable, not_forall, Bool.not_eq_true, exists_prop]

/-- Settles O27: the fault of a read is one outcome of `Gives`, with the statement's condition. -/
theorem unwrittenRegisterFaults : Obligations.UnwrittenRegisterFaults := by
  intro i s
  rw [exec_eq_iff_gives, ← not_readable_iff]
  constructor
  · rintro ⟨⟩
    next hwf hfits hread => exact ⟨hwf, hfits, hread⟩
  · exact fun ⟨hwf, hfits, hread⟩ => .unwritten hwf hfits hread

/-! What an instruction that made its writes leaves and keeps. -/

/-- An instruction that made its writes executed, and left the done state, with SIGNAL set exactly if an executing lane
signalled. -/
theorem Wrote.cases {i : Instr} {s t : State} (h : Wrote i s t) : Executes i s ∧
    (¬ someLaneSignals s (laneSignals i s) ∧ t = doneState i s ∨
      someLaneSignals s (laneSignals i s) ∧ t = (doneState i s).setSignal) := by
  obtain h | h := h
  · obtain _ | _ | _ | ⟨hexec, hquiet⟩ | ⟨hexec, hsignal, -⟩ | _ := exec_eq_iff_gives.mp h
    · exact ⟨hexec, .inl ⟨hquiet, rfl⟩⟩
    · exact ⟨hexec, .inr ⟨hsignal, rfl⟩⟩
  · obtain _ | _ | _ | _ | _ | ⟨hexec, hsignal, -⟩ := exec_eq_iff_gives.mp h
    exact ⟨hexec, .inr ⟨hsignal, rfl⟩⟩

/-- EXEC after an instruction: the mask for an X form, else as before (40_vopc_common.md R127). -/
theorem Wrote.execMask_eq {i : Instr} {s t : State} (h : Wrote i s t) :
    t.execMask = if i.opcode / 16 % 2 = 1 then resultMask s (laneResult i s) else s.execMask := by
  obtain ⟨-, rfl | rfl⟩ := h.eq_compareState <;> simp

/-- Which SGPRs hold a value after an instruction: those that do after the write of its destination (10_state.md R31). -/
theorem Wrote.sgprHolds_eq {i : Instr} {s t : State} (h : Wrote i s t) (k : Nat) :
    t.sgprHolds k = (s.writeDest i.form.dest (resultMask s (laneResult i s))).sgprHolds k := by
  obtain ⟨-, rfl | rfl⟩ := h.eq_compareState <;> simp

/-- Whether the halves of VCC hold a value after an instruction: if they did, or VCC is its destination (10_state.md R31). -/
theorem Wrote.vccHas_eq {i : Instr} {s t : State} (h : Wrote i s t) :
    t.vccLoHas = (decide (i.form.dest = .vcc) || s.vccLoHas) ∧ t.vccHiHas = (decide (i.form.dest = .vcc) || s.vccHiHas) := by
  obtain ⟨-, rfl | rfl⟩ := h.eq_compareState
  all_goals cases hdest : i.form.dest <;> simp [hdest]

/-- The destination pair of an instruction that made its writes lies in the file (30_encoding.md R90). -/
theorem Wrote.pair_in_file {i : Instr} {s t : State} (h : Wrote i s t) {n : SgprNum} (hdest : i.form.dest = .pair n) :
    n.val + 1 < 104 :=
  (dest_pair_of_wellFormed h.eq_compareState.1 hdest).2

/-- An SGPR outside the destination keeps its value and whether it holds one (10_state.md R24, R31). -/
theorem State.writeDest_kept {s : State} {dest : Sdst} (hfile : ∀ n, dest = .pair n → n.val + 1 < 104) (d : LaneMask) {k : Nat}
    (hk : ∀ n, dest = .pair n → k ≠ n.val ∧ k ≠ n.val + 1) :
    (s.writeDest dest d).sgpr k = s.sgpr k ∧ (s.writeDest dest d).sgprHolds k = s.sgprHolds k := by
  cases dest with
  | vcc => exact ⟨rfl, rfl⟩
  | pair n =>
    obtain ⟨hlow, hhigh⟩ := hk n rfl
    simp [State.writeDest_pair_sgpr _ _ _ _ (hfile n rfl), State.writeDest_pair_sgprHolds _ _ _ _ (hfile n rfl), hlow, hhigh]

/-- The SGPRs that hold a value after the write of a destination: those that did and the pair's (10_state.md R31). -/
theorem State.writeDest_sgprHolds_iff {s : State} {dest : Sdst} (hfile : ∀ n, dest = .pair n → n.val + 1 < 104) (d : LaneMask)
    (k : Nat) : (s.writeDest dest d).sgprHolds k = true ↔
      s.sgprHolds k = true ∨ ∃ n, dest = .pair n ∧ (k = n.val ∨ k = n.val + 1) := by
  cases dest with
  | vcc => simp
  | pair n =>
    rw [State.writeDest_pair_sgprHolds _ _ _ _ (hfile n rfl)]
    simp only [Bool.or_eq_true, decide_eq_true_eq, Sdst.pair.injEq, exists_eq_left']
    tauto

/-- The registers of the destination hold a value once written (10_state.md R31). -/
theorem Wrote.dest_holds {i : Instr} {s t : State} (h : Wrote i s t) : destHolds t i.form.dest = true := by
  cases hdest : i.form.dest with
  | vcc => simp [destHolds, h.vccHas_eq, hdest]
  | pair n =>
    simp [destHolds, h.sgprHolds_eq, hdest, State.writeDest_pair_sgprHolds _ _ _ _ (h.pair_in_file hdest)]

/-- No instruction writes a VGPR, M0, memory or a launch parameter (10_state.md R24, R35). -/
theorem Wrote.unwritten_kept {i : Instr} {s t : State} (h : Wrote i s t) : t.vgprs = s.vgprs ∧ t.vgprHas = s.vgprHas ∧
    t.m0 = s.m0 ∧ t.m0Has = s.m0Has ∧ t.mem = s.mem ∧ t.programBase = s.programBase ∧ t.config = s.config := by
  obtain ⟨-, rfl | rfl⟩ := h.eq_compareState <;> simp

/-- The pc after an instruction (40_vopc_common.md R120 step 7). -/
theorem Wrote.pc_eq {i : Instr} {s t : State} (h : Wrote i s t) : t.pc = s.pc + i.form.length := by
  obtain ⟨-, rfl | rfl⟩ := h.eq_compareState <;> rfl

/-- SIGNAL after an instruction (10_state.md R30). -/
theorem Wrote.signal_iff {i : Instr} {s t : State} (h : Wrote i s t) :
    t.signal = true ↔ s.signal = true ∨ someLaneSignals s (laneSignals i s) := by
  obtain ⟨-, ⟨hquiet, rfl⟩ | ⟨hsignal, rfl⟩⟩ := h.cases
  · simp [doneState, hquiet]
  · simp [hsignal]

/-- The frame of an instruction (10_state.md R35). -/
theorem Wrote.frame {i : Instr} {s t : State} (h : Wrote i s t) : CompareFrame s t i.form.dest := by
  obtain ⟨hvgprs, hvgprHas, hm0, hm0Has, hmem, hbase, hconfig⟩ := h.unwritten_kept
  obtain ⟨hlo, hhi⟩ := h.vccHas_eq
  exact {
    vgprs := hvgprs
    vgprsHold := hvgprHas
    m0 := hm0
    m0Holds := hm0Has
    memory := fun _ => by rw [hmem]
    programBase := hbase
    config := hconfig
    vcc := fun hdest => by
      rw [h.vcc_eq]
      cases hpair : i.form.dest with
      | vcc => exact absurd hpair hdest
      | pair n => rfl
    vccHolds := fun hdest => by simp [hlo, hhi, hdest]
    sgprs := fun k hk => (h.sgpr_eq k).trans (State.writeDest_kept (fun _ => h.pair_in_file) _ hk).1
    sgprsHold := fun k hk => (h.sgprHolds_eq k).trans (State.writeDest_kept (fun _ => h.pair_in_file) _ hk).2 }

/-- An instruction that made its writes left everything the spec's step says, whether the run goes on or stops in the signal's fault
(40_vopc_common.md R120). -/
theorem Wrote.compareDone {i : Instr} {s t : State} (h : Wrote i s t) :
    CompareDone s t i (laneResult i s) (laneSignals i s) where
  dest L hL := by rw [h.destBit_eq hL, resultMask_getLsbD s _ hL]
  destHolds := h.dest_holds
  exec L hL := by
    rw [h.execMask_eq]
    obtain hx | hx : i.opcode / 16 % 2 = 0 ∨ i.opcode / 16 % 2 = 1 := by omega
    · simp [hx]
    · simp [hx, resultMask_getLsbD s _ hL]
  signal := h.signal_iff
  pc := h.pc_eq
  frame := h.frame

/-! Completion. -/

/-- An instruction that executes goes on unless it signals under SIGNAL_MODE = fault, and has then done all the spec's step says. -/
theorem completes {i : Instr} {s : State} (h : Executes i s)
    (hmode : s.config.signalMode = .flag ∨ ¬ someLaneSignals s (laneSignals i s)) :
    ∃ t, exec i s = .next t ∧ CompareDone s t i (laneResult i s) (laneSignals i s) := by
  obtain ⟨t, ht⟩ : ∃ t, exec i s = .next t := by
    by_cases hsignal : someLaneSignals s (laneSignals i s)
    · exact ⟨_, exec_eq_iff_gives.mpr (.flagged h hsignal (hmode.resolve_right (not_not_intro hsignal)))⟩
    · exact ⟨_, exec_eq_iff_gives.mpr (.done h hsignal)⟩
  exact ⟨t, ht, Wrote.compareDone (.inl ht)⟩

/-- An integer compare or class test that executes goes on with SIGNAL as it was. -/
theorem completes_silently {i : Instr} {s : State} (hop : 128 ≤ i.opcode) (h : Executes i s) :
    ∃ t, exec i s = .next t ∧ t.signal = s.signal ∧ CompareDone s t i (laneResult i s) (laneSignals i s) := by
  have hquiet := not_someLaneSignals_of_not_float hop s
  obtain ⟨t, ht, hdone⟩ := completes h (.inr hquiet)
  exact ⟨t, ht, Bool.eq_iff_iff.mpr (by simp [hdone.signal, hquiet]), hdone⟩

/-- Settles O18: every executing instruction completes (`completes`), these among them. -/
theorem singlePrecisionCompareCompletes : Obligations.SinglePrecisionCompareCompletes :=
  fun _ _ _ _ hexec hmode => completes hexec hmode

/-- Settles O19: every executing instruction completes (`completes`), these among them. -/
theorem doublePrecisionCompareCompletes : Obligations.DoublePrecisionCompareCompletes :=
  fun _ _ _ _ hexec hmode => completes hexec hmode

/-- Settles O20: from 128 on no opcode signals (`completes_silently`). -/
theorem integer32CompareCompletes : Obligations.Integer32CompareCompletes :=
  fun _ _ hop _ _ hexec => completes_silently hop hexec

/-- Settles O21: from 128 on no opcode signals (`completes_silently`). -/
theorem integer64CompareCompletes : Obligations.Integer64CompareCompletes :=
  fun _ _ hop _ _ hexec => completes_silently hop hexec

/-- Settles O22: the four class tests have opcodes from 128 on, where no opcode signals (`completes_silently`). -/
theorem classTestCompletes : Obligations.ClassTestCompletes :=
  fun _ _ hclass hexec => completes_silently (by omega) hexec

/-- Settles O23: the fault carries the state of `Wrote.compareDone`. -/
theorem signalFaultsAfterWrites : Obligations.SignalFaultsAfterWrites := fun _ _ hexec hmode hsignal =>
  have hfault := exec_eq_iff_gives.mpr (.trapped hexec hsignal hmode)
  ⟨_, hfault, Wrote.compareDone (.inr hfault)⟩

/-! The rules of all instructions at once. -/

/-- Settles O29: by the writes of the destination, `Wrote.sgprHolds_eq` and `Wrote.vccHas_eq`. -/
theorem registersHoldOnceWritten : Obligations.RegistersHoldOnceWritten := by
  intro i s t h
  obtain ⟨-, hvgprHas, -, hm0Has, -⟩ := h.unwritten_kept
  obtain ⟨hlo, hhi⟩ := h.vccHas_eq
  refine ⟨fun k => ?_, by simp [hlo, or_comm], by simp [hhi, or_comm], State.vgprHolds_congr hvgprHas, hm0Has⟩
  rw [h.sgprHolds_eq]
  exact State.writeDest_sgprHolds_iff (fun _ => h.pair_in_file) _ k

/-- Settles O33: the destination bit is the lane's result where EXEC is 1, else 0. -/
theorem idleLaneBitIsZero : Obligations.IdleLaneBitIsZero := by
  intro i s t L h hL hidle
  rw [h.compareDone.dest L hL, hidle, Bool.false_and]

/-- Settles O35: an X form puts the mask in EXEC (`Wrote.execMask_eq`) that the destination holds (`Wrote.destBit_eq`). -/
theorem execWrittenByXFormsOnly : Obligations.ExecWrittenByXFormsOnly := by
  intro i s t h
  have hexec := h.execMask_eq
  split_ifs at hexec ⊢ with hx
  · exact fun L hL => by rw [hexec, h.destBit_eq hL]
  · exact hexec

/-- Settles O39: with EXEC = 0 no lane executes, so that no operand is read, no lane signals and every bit of the mask is 0. -/
theorem noActiveLaneWritesZero : Obligations.NoActiveLaneWritesZero := by
  intro i s hwf hfits hzero
  have hidle : ∀ L, s.execMask.getLsbD L = false := fun L => by simp [hzero]
  have hread : Readable i s := fun L _ hL => by simp [hidle] at hL
  have hquiet : ¬ someLaneSignals s (laneSignals i s) := fun ⟨L, _, hL, _⟩ => by simp [hidle] at hL
  obtain ⟨t, ht, hdone⟩ := completes ⟨hwf, hfits, hread⟩ (.inr hquiet)
  refine ⟨t, ht, fun L hL => ?_, BitVec.eq_of_getLsbD_eq fun L hL => ?_, Bool.eq_iff_iff.mpr ?_, hdone.pc, hdone.frame⟩
  · rw [hdone.dest L hL, hidle, Bool.false_and]
  · rw [hdone.exec L hL, hidle, Bool.false_and, BitVec.getLsbD_zero]
  · simp [hdone.signal, hquiet]

/-- F is false on every two operands (40_vopc_common.md R130, R133). -/
theorem laneResult_of_F {i : Instr} (hop : i.opcode % 16 = 0) (s : State) (L : Nat) : laneResult i s L = false := by
  have hop8 : i.opcode % 8 = 0 := by omega
  have hentry : ∀ r, op16Entry 0 r = false := fun r => by cases r <;> rfl
  have hinteger : ∀ a b, op8Entry 0 a b = false := fun a b => by unfold op8Entry; split_ifs <;> rfl
  rw [laneResult_eq_opcodeTruth, opcodeTruth]
  split_ifs
  · simp [floatBit, hop, hentry]
  · omega
  · simp [intBit, hop8, hinteger]

/-- T is true on every two operands (40_vopc_common.md R130, R133). -/
theorem laneResult_of_T {i : Instr} (hop : i.opcode < 128 ∧ i.opcode % 16 = 15 ∨ 128 ≤ i.opcode ∧ i.opcode % 16 = 7) (s : State)
    (L : Nat) : laneResult i s L = true := by
  have hop8 : i.opcode % 8 = 7 := by omega
  have hentry : ∀ r, op16Entry 15 r = true := fun r => by cases r <;> rfl
  have hinteger : ∀ a b, op8Entry 7 a b = true := fun a b => by unfold op8Entry; split_ifs <;> rfl
  rw [laneResult_eq_opcodeTruth, opcodeTruth]
  split_ifs
  · simp [floatBit, show i.opcode % 16 = 15 by omega, hentry]
  · omega
  · simp [intBit, hop8, hinteger]

/-- Settles O40: the mask is 0 for F and the old EXEC for T. -/
theorem constantOperations : Obligations.ConstantOperations := by
  intro i s t h
  refine ⟨fun hop => ?F, fun hop => ?T⟩
  case F =>
    have hmask : resultMask s (laneResult i s) = 0#64 :=
      (eq_resultMask fun L _ => by rw [laneResult_of_F hop, Bool.and_false, BitVec.getLsbD_zero]).symm
    refine ⟨fun L hL => ?_, ?_⟩
    · rw [h.destBit_eq hL, hmask, BitVec.getLsbD_zero]
    · rw [h.execMask_eq, hmask]
  case T =>
    have hmask : resultMask s (laneResult i s) = s.execMask :=
      (eq_resultMask fun L _ => by rw [laneResult_of_T hop, Bool.and_true]).symm
    refine ⟨fun L hL => ?_, ?_⟩
    · rw [h.destBit_eq hL, hmask]
    · rw [h.execMask_eq, hmask, ite_self]

/-- Offsets `k` and `15 - k` of the OP16 table are complements in every column (40_vopc_common.md R130). -/
theorem op16Entry_complement {k : Nat} (hk : k < 16) (r : Relation) : op16Entry (15 - k) r = !op16Entry k r := by
  cases r <;> (revert k; decide)

/-- The float operations at offsets `k` and `15 - k` are complements, but for O and U read as printed (40_vopc_common.md R130). -/
theorem floatBit_complement {n k : Nat} (hk : k < 16) (fmt : FpFormat) (denorm : DenormMode) {reading : UReading}
    (hu : reading = .unordered ∨ k ≠ 7 ∧ k ≠ 8) (a b : BitVec n) :
    floatBit fmt denorm reading (15 - k) a b = !floatBit fmt denorm reading k a b := by
  have hprinted : ∀ j, j = k ∨ j = 15 - k → ¬ (j = 8 ∧ reading = .asPrinted) := by
    rintro j hj ⟨hj8, rfl⟩
    simp only [reduceCtorEq, false_or] at hu
    omega
  rw [floatBit, floatBit, if_neg (hprinted _ (.inr rfl)), if_neg (hprinted _ (.inl rfl)), op16Entry_complement hk]

/-- Settles O43: in an executing lane each destination bit is the lane's result, and the two results are complements. -/
theorem complementaryOperations : Obligations.ComplementaryOperations := by
  intro i j s t u hfloat hgroup hsum hform hu hi hj L hL hexec
  have hbits := hform ▸ executingLaneBitIsTruthValue j s u L hj hL hexec
  rw [executingLaneBitIsTruthValue i s t L hi hL hexec, hbits]
  have hk : i.opcode % 16 < 16 := Nat.mod_lt _ (by decide)
  have hoffset : j.opcode % 16 = 15 - i.opcode % 16 := by omega
  have hformat : j.opcode / 32 % 2 = i.opcode / 32 % 2 := by omega
  simp only [laneResult, if_pos hfloat, if_pos (show j.opcode < 128 by omega), hoffset, hformat, ← hform,
    floatBit_complement hk _ _ hu]
  split_ifs <;> rw [Bool.not_not]

/-! Instructions that act alike. -/

/-- F, EQ, LG and T ask only whether two integers are equal (40_vopc_common.md R133). -/
theorem op8Entry_of_equality {k : Nat} (hk : k = 0 ∨ k = 2 ∨ k = 5 ∨ k = 7) {a b a' b' : Int} (h : a = b ↔ a' = b') :
    op8Entry k a b = op8Entry k a' b' := by
  have hentry : ∀ x y : Int, op8Entry k x y = (op8Rows.getD k 0).testBit (if x = y then 1 else 2) := by
    intro x y
    obtain hlt | rfl | hgt := lt_trichotomy x y
    · simp [op8Entry, hlt, hlt.ne]
    · simp [op8Entry]
    · rw [op8Entry, if_neg hgt.not_gt, if_neg hgt.ne', if_neg hgt.ne']
      obtain rfl | rfl | rfl | rfl := hk <;> rfl
  simp only [hentry, h]

/-- F, EQ, LG and T give the same lane result for the signed and the unsigned opcode. -/
theorem intBit_ignores_signedness {n op : Nat} (hop : op % 8 = 0 ∨ op % 8 = 2 ∨ op % 8 = 5 ∨ op % 8 = 7) (a b : BitVec n) :
    intBit (op + 64) a b = intBit op a b := by
  have hoffset : (op + 64) % 8 = op % 8 := by omega
  have hequal : (a.toInt = b.toInt ↔ (a.toNat : Int) = b.toNat) := by
    rw [BitVec.toInt_inj, Int.ofNat_inj, BitVec.toNat_inj]
  rw [intBit, intBit, hoffset, op8Entry_of_equality hop hequal, ite_self, ite_self]

/-- Settles O42: the two instructions have the same check, the same readable states and the same lane results, and neither
signals. -/
theorem equalityIgnoresSignedness : Obligations.EqualityIgnoresSignedness := by
  intro i j s hlow hhigh hop hj hform
  have hwidth : opcodeWidth j.opcode = opcodeWidth i.opcode := by
    rw [opcodeWidth, opcodeWidth, show j.opcode / 32 % 2 = i.opcode / 32 % 2 by omega]
  have hmask : opcodeHasMask64 j.opcode = opcodeHasMask64 i.opcode := by
    rw [Bool.eq_iff_iff]
    simp only [opcodeHasMask64, Bool.or_eq_true, beq_iff_eq]
    omega
  have hresult : laneResult j s = laneResult i s := by
    funext L
    simp only [laneResult, hform, hj, if_neg (show ¬ i.opcode + 64 < 128 by omega), if_neg (show ¬ i.opcode < 128 by omega),
      if_neg (show ¬ (i.opcode + 64) % 16 = 8 by omega), if_neg (show ¬ i.opcode % 16 = 8 by omega),
      show (i.opcode + 64) / 32 % 2 = i.opcode / 32 % 2 by omega,
      intBit_ignores_signedness (op := i.opcode) (show _ by omega)]
  have hdone : doneState j s = doneState i s := by
    rw [doneState, doneState, hform, hresult, show j.opcode / 16 % 2 = i.opcode / 16 % 2 by omega]
  have hcheck : j.check s.config = i.check s.config := by rw [Instr.check, Instr.check, hwidth, hmask, hform]
  have hread : Readable j s ↔ Readable i s := by rw [Readable, Readable, hwidth, hform]
  have hquiet := not_someLaneSignals_of_not_float (show 128 ≤ j.opcode by omega) s
  have hquiet' := not_someLaneSignals_of_not_float hlow s
  obtain ⟨o, ho⟩ : ∃ o, exec i s = o := ⟨_, rfl⟩
  rw [ho, exec_eq_iff_gives]
  obtain ⟨why, hwhy⟩ | ⟨hwf, hfits⟩ | ⟨hwf, hfits, hnot⟩ | ⟨⟨hwf, hfits, hreads⟩, -⟩ | ⟨-, hsignal, -⟩ | ⟨-, hsignal, -⟩ :=
    exec_eq_iff_gives.mp ho
  · exact .rejected why (hcheck.trans hwhy)
  · exact .pcOverflow (hcheck.trans hwf) (hform ▸ hfits)
  · exact .unwritten (hcheck.trans hwf) (hform ▸ hfits) (mt hread.mp hnot)
  · exact hdone ▸ .done ⟨hcheck.trans hwf, hform ▸ hfits, hread.mpr hreads⟩ hquiet
  · exact absurd hsignal hquiet'
  · exact absurd hsignal hquiet'


/-- A VOPC form with no literal and the VOP3 form of the same operands, with SDST = VCC and no modifiers, are admitted alike: VCC is
always admitted, and a vector register is no scalar one (40_vopc_common.md R141). -/
theorem admitForm_vop3_of_vopc (cfg : Config) (w : Width) (mask : Bool) {src0 : Src} (vsrc1 : VgprNum)
    (hlit : src0.isLiteral = false) :
    admitForm cfg w mask (.vop3 .vcc .off src0 (.vgpr vsrc1)) = admitForm cfg w mask (.vopc src0 vsrc1) := by
  have hsrc0 : admitSrc cfg w false false src0 = admitSrc cfg w true false src0 := by
    cases src0 with
    | literal => cases hlit
    | _ => rfl
  simp [admitForm, hsrc0, admitSdst, admitScalars, Src.isScalarReg]

section
variable {i j : Instr} {src0 : Src} {vsrc1 : VgprNum} (hop : i.opcode = j.opcode) (hi : i.form = .vopc src0 vsrc1)
  (hj : j.form = .vop3 .vcc .off src0 (.vgpr vsrc1)) (s : State)
include hop hi hj

/-- The two forms compare the same operands, so that they give the same result and the same signal in every lane. -/
theorem lane_vop3_of_vopc : laneResult j s = laneResult i s ∧ laneSignals j s = laneSignals i s := by
  have hoperands : ∀ w L, operand0 w s j.form L = operand0 w s i.form L ∧ operand1 w s j.form L = operand1 w s i.form L :=
    fun w L => by rw [hi, hj]; exact ⟨rfl, rfl⟩
  constructor <;> funext L
  · simp only [laneResult, ← hop, hoperands]
  · simp only [laneSignals, ← hop, hoperands]

/-- The two forms read the same registers. -/
theorem readable_vop3_of_vopc : Readable j s ↔ Readable i s := by
  rw [Readable, Readable, ← hop, hi, hj]
  rfl

/-- The two forms leave the same state but for the pc. -/
theorem doneState_vop3_of_vopc : doneState j s = (doneState i s).setPc (s.pc + 8) := by
  rw [doneState, doneState, (lane_vop3_of_vopc hop hi hj s).1, ← hop, compareState, compareState, hi, hj]
  rfl

end

/-- Settles O41: the two forms are admitted alike, read the same registers and leave the same state but for the pc, so that each
outcome of the one is the other's; the VOP3 form's next pc, which fits, is the higher. -/
theorem vopcAndVop3FormsAgree : Obligations.VopcAndVop3FormsAgree := by
  intro i j s src0 vsrc1 hop hi hj hlit hfits8
  have hilen : i.form.length = 4 := by simp [hi, Form.length, hlit]
  have hjlen : j.form.length = 8 := by simp [hj, Form.length]
  have hcheck : j.check s.config = i.check s.config := by
    rw [Instr.check, Instr.check, ← hop, hi, hj, admitForm_vop3_of_vopc _ _ _ _ hlit]
  have hread := readable_vop3_of_vopc hop hi hj s
  obtain ⟨-, hsignals⟩ := lane_vop3_of_vopc hop hi hj s
  have hdone := doneState_vop3_of_vopc hop hi hj s
  have hset : (doneState i s).setSignal.setPc (s.pc + 8) = (doneState j s).setSignal := by rw [hdone]; rfl
  have hexec : Executes i s → Executes j s := fun ⟨hwf, _, hreads⟩ => ⟨hcheck.trans hwf, hjlen.symm ▸ hfits8, hread.mpr hreads⟩
  have hpc : (doneState i s).pc = s.pc + 4 := by rw [doneState, compareState_pc, hilen]
  refine ⟨fun t ht => ?next, fun t ht => ?signal, fun ht => ?unwritten, fun r hr => ?refused⟩
  case next =>
    obtain _ | _ | _ | ⟨he, hquiet⟩ | ⟨he, hsignal, hmode⟩ | _ := exec_eq_iff_gives.mp ht
    · exact ⟨hpc, exec_eq_iff_gives.mpr (hdone ▸ .done (hexec he) (hsignals ▸ hquiet))⟩
    · exact ⟨hpc, exec_eq_iff_gives.mpr (hset ▸ .flagged (hexec he) (hsignals ▸ hsignal) hmode)⟩
  case signal =>
    obtain _ | _ | _ | _ | _ | ⟨he, hsignal, hmode⟩ := exec_eq_iff_gives.mp ht
    exact ⟨hpc, exec_eq_iff_gives.mpr (hset ▸ .trapped (hexec he) (hsignals ▸ hsignal) hmode)⟩
  case unwritten =>
    obtain _ | _ | ⟨hwf, -, hnot⟩ | _ | _ | _ := exec_eq_iff_gives.mp ht
    exact exec_eq_iff_gives.mpr (.unwritten (hcheck.trans hwf) (hjlen.symm ▸ hfits8) (mt hread.mp hnot))
  case refused =>
    obtain ⟨why, hwhy⟩ | ⟨-, hover⟩ | _ | _ | _ | _ := exec_eq_iff_gives.mp hr
    · exact exec_eq_iff_gives.mpr (.rejected why (hcheck.trans hwhy))
    · rw [hilen, pcFits_of_le (by omega) hfits8] at hover
      cases hover

/-- The admission of operands looks at the generation and INLINE64 alone (30_encoding.md R88, R101). -/
theorem admitForm_congr {cfg cfg' : Config} (hversion : cfg'.version = cfg.version) (hinline : cfg'.inline64 = cfg.inline64)
    (w : Width) (mask : Bool) (form : Form) : admitForm cfg' w mask form = admitForm cfg w mask form := by
  have hpair : ∀ n, pairStart cfg' n = pairStart cfg n := fun n => by rw [pairStart, pairStart, hversion]
  have hsrc : ∀ litOk mask src, admitSrc cfg' w litOk mask src = admitSrc cfg w litOk mask src := by
    intro litOk mask src
    cases src <;> simp only [admitSrc, hversion, hinline, hpair]
  have hdest : ∀ dest, admitSdst cfg' dest = admitSdst cfg dest := fun dest => by cases dest <;> simp only [admitSdst, hpair]
  cases form <;> simp only [admitForm, hsrc, hdest]

/-- Whether an address fits looks at PC_WIDTH alone (10_state.md R29). -/
theorem pcFits_congr {cfg cfg' : Config} (h : cfg'.pcWidth = cfg.pcWidth) (a : Nat) : pcFits cfg' a = pcFits cfg a := by
  rw [pcFits, pcFits, h]

/-- The lane results of the integer compares and class tests do not depend on the configuration (40_vopc_common.md R133, R136). -/
theorem laneResult_config {i : Instr} (hop : 128 ≤ i.opcode) (s : State) (cfg : Config) :
    laneResult i { s with config := cfg } = laneResult i s := by
  funext L
  simp only [laneResult, if_neg (Nat.not_lt.mpr hop), operand0, operand1, fetch_config]

/-- Settles O49: an integer compare or class test that completes is silent, and neither its conditions nor its done state depend on
the DENORM_MODEs. -/
theorem denormModeTouchesFloatComparesOnly : Obligations.DenormModeTouchesFloatComparesOnly := by
  intro i s t d32 d64 hop ht
  obtain ⟨⟨hwf, hfits, hread⟩, ⟨-, rfl⟩ | ⟨hsignal, -⟩⟩ := Wrote.cases (.inl ht)
  · set cfg : Config := { s.config with denormF32 := d32, denormF64 := d64 }
    have hdone : doneState i { s with config := cfg } = { doneState i s with config := cfg } := by
      rw [doneState, laneResult_config hop, compareState_with_config]
      rfl
    have hcfg : { (doneState i s).config with denormF32 := d32, denormF64 := d64 } = cfg := by
      rw [doneState, compareState_config]
    rw [hcfg, ← hdone, exec_eq_iff_gives]
    refine .done ⟨?_, ?_, fun L hL hx => ?_⟩ (not_someLaneSignals_of_not_float hop _)
    · exact (admitForm_congr (cfg := s.config) rfl rfl ..).trans hwf
    · exact (pcFits_congr (cfg := s.config) rfl _).trans hfits
    · rw [operandsHold, holds_config, holds_config]
      exact hread L hL hx
  · exact absurd hsignal (not_someLaneSignals_of_not_float hop s)

end Sys2Proof.Machine
end

section
/-! Proofs about fetch, the step and runs: which instruction a step runs, what every step keeps and advances, and the statements on
the launched states, the end of a run and the lanes that no run observes (20_memory.md R50 to R54,
70_reset_and_hazards.md R541 to R550). -/

namespace Sys2Proof.Machine

/-! The step (40_vopc_common.md R120). -/

/-- A fetch answers an instruction exactly if the bytes found decode to it. -/
theorem fetchInstr_eq_ok {s : State} {i : Instr} :
    fetchInstr s = .ok i ↔ ∃ rest, decode s.config s.fetchBytes = .ok (i, rest) := by
  unfold fetchInstr
  cases decode s.config s.fetchBytes with
  | error why => simp [Except.map]
  | ok r => simp [Except.map, Prod.ext_iff]

/-- At an aligned base and pc only the end of the run keeps a step from fetching (20_memory.md R54, 70_reset_and_hazards.md
R544). -/
theorem noFetch_of_aligned {s : State} (hbase : s.programBase % 4 = 0) (hpc : s.pc % 4 = 0) :
    noFetch s = if s.pc = s.programEnd then some .runEnded else none := by
  simp [noFetch, hbase, hpc, atProgramEnd]

/-- Where a step fetches, the pc is aligned and not at the end. -/
theorem noFetch_eq_none {s : State} : noFetch s = none ↔ s.programBase % 4 = 0 ∧ s.pc % 4 = 0 ∧ s.pc ≠ s.programEnd := by
  unfold noFetch
  split_ifs with hbase hpc hend
  · simp [hbase]
  · simp [hpc]
  · simpa [atProgramEnd, Classical.not_not.mp hbase, Classical.not_not.mp hpc] using hend
  · simpa [atProgramEnd, Classical.not_not.mp hbase, Classical.not_not.mp hpc] using hend

/-- Everything a step can be: nothing fetched, nothing decoded, or the meaning of the decoded instruction. -/
theorem step_cases (s : State) :
    (∃ why, noFetch s = some why ∧ step s = .refused why) ∨
    (noFetch s = none ∧ ∃ why, fetchInstr s = .error why ∧ step s = .refused (.rejected why)) ∨
    (noFetch s = none ∧ ∃ i rest, decode s.config s.fetchBytes = .ok (i, rest) ∧ step s = exec i s) := by
  cases hn : noFetch s with
  | some why => exact .inl ⟨why, rfl, by simp [step, hn]⟩
  | none =>
    cases hi : fetchInstr s with
    | error why => exact .inr (.inl ⟨rfl, why, rfl, by simp [step, hn, hi]⟩)
    | ok i =>
      obtain ⟨rest, hdecode⟩ := fetchInstr_eq_ok.mp hi
      exact .inr (.inr ⟨rfl, i, rest, hdecode, by simp [step, hn, hi]⟩)

/-- The instruction fetched lies in `[PROGRAM_BASE, PROGRAM_END)` (20_memory.md R50). -/
theorem fetched_in_program {s : State} {i : Instr} {rest : List Byte} (h : decode s.config s.fetchBytes = .ok (i, rest)) :
    s.programBase ≤ s.pc ∧ s.pc + i.form.length ≤ s.programEnd := by
  obtain ⟨-, hbytes, hlength⟩ := decodedInstructionIsWellFormed _ _ _ _ h
  have hle := s.fetchBytes_length_le
  obtain ⟨hbase, -⟩ := s.fetchBytes_getElem 0 (by omega)
  exact ⟨by omega, by omega⟩

/-- Settles O15: a fetch that decodes found bytes, so that the pc is not at the end, and an aligned step runs what it fetched. -/
theorem stepRunsDecodedInstruction : Obligations.StepRunsDecodedInstruction := by
  intro s i rest hbase hpc h
  obtain ⟨hwf, -, hlength⟩ := decodedInstructionIsWellFormed _ _ _ _ h
  obtain ⟨-, hend⟩ := fetched_in_program h
  have hfetch : noFetch s = none := noFetch_eq_none.mpr ⟨hbase, hpc, by omega⟩
  refine ⟨hwf, ?_⟩
  simp only [step, hfetch, fetchInstr_eq_ok.mpr ⟨rest, h⟩]

/-- Settles O16: a fetch finds the encoding first, which decodes to the instruction whatever follows. -/
theorem stepRunsEncodedInstruction : Obligations.StepRunsEncodedInstruction := by
  intro s i hcfg hwf hbase hpc hlow hhigh hread
  obtain ⟨-, hlength, h48⟩ := decodedInstructionIsWellFormed _ _ _ _ (decodeOfEncodeIsIdentity s.config i [] hcfg hwf)
  simp only [List.append_nil, List.length_nil, Nat.add_zero] at hlength
  obtain ⟨rest, hbytes⟩ := s.fetchBytes_of_read (encode i) (by omega) hlow hhigh hread
  exact (stepRunsDecodedInstruction s i rest hbase hpc (hbytes ▸ decodeOfEncodeIsIdentity s.config i rest hcfg hwf)).2

/-- The bytes of a table word fill the longest instruction. -/
theorem tableBytes_length (nbits w : Nat) : (tableBytes nbits w).length = 8 := by
  simp [tableBytes]

/-- In a launched state a fetch after the load finds exactly the bytes loaded. -/
theorem fetchBytes_withFetchWord {s : State} (h : Launched s) (nbits w : Nat) :
    (s.withFetchWord nbits w).fetchBytes = tableBytes nbits w := by
  have hbytes := tableBytes_length nbits w
  obtain ⟨-, hlength⟩ := Memory.placedAt_load (tableBytes nbits w) s.mem s.programBase s.pc h.placed h.base_le_pc h.pc_le_end
  have hbase := h.base_le_pc
  have hend : (s.withFetchWord nbits w).programEnd = s.programBase + max s.mem.length (s.pc + 8 - s.programBase) := by
    rw [State.programEnd, State.withFetchWord_programBase, State.withFetchWord_mem, hlength, hbytes]
  obtain ⟨rest, hfetch⟩ := (s.withFetchWord nbits w).fetchBytes_of_read (tableBytes nbits w) hbytes.le hbase
    (by rw [hend, hbytes, State.withFetchWord_pc]; omega) fun k hk => by
      rw [State.withFetchWord_mem, State.withFetchWord_pc, Memory.read_load, dif_pos (by omega)]
      simp only [Nat.add_sub_cancel_left]
  have hle := (s.withFetchWord nbits w).fetchBytes_length_le
  rw [hfetch, List.length_append, hbytes] at hle
  have hrest : rest = [] := List.length_eq_zero_iff.mp (by omega)
  rw [hfetch, hrest, List.append_nil]

/-- Settles O17: in a launched state, the reset state among them, the next fetch finds the bytes loaded. -/
theorem tableWordRunsFromReset : Obligations.TableWordRunsFromReset := by
  intro nbits w
  have hruns : ∀ (s : State) (i : Instr) (rest : List Byte), Launched s → decode s.config (tableBytes nbits w) = .ok (i, rest) →
      step (s.withFetchWord nbits w) = exec i (s.withFetchWord nbits w) := by
    intro s i rest h hdecode
    rw [← fetchBytes_withFetchWord h nbits w] at hdecode
    exact (stepRunsDecodedInstruction (s.withFetchWord nbits w) i rest h.base_aligned h.pc_aligned hdecode).2
  refine ⟨fun s => rfl, fun i hi => ?_, hruns⟩
  unfold decodeTableWord at hi
  cases hdecode : decode .default (tableBytes nbits w) with
  | error why => simp [hdecode] at hi
  | ok r =>
    obtain ⟨i', rest⟩ := r
    obtain rfl : i' = i := by simpa [hdecode] using hi
    exact hruns State.reset i' rest launchedHoldsAtReset hdecode

/-- A step that goes on ran the decoded instruction, which made its writes. -/
theorem step_wrote {s t : State} (h : step s = .next t) :
    ∃ i rest, decode s.config s.fetchBytes = .ok (i, rest) ∧ Wrote i s t := by
  obtain ⟨-, i, hi, hexec⟩ := step_next h
  obtain ⟨rest, hdecode⟩ := fetchInstr_eq_ok.mp hi
  exact ⟨i, rest, hdecode, .inl hexec⟩

/-! Faults and signals of a step (60_exceptions.md R500 to R505). -/

/-- Settles O26: the trapped outcome of `Gives` needs a signal, which only opcodes below 128 give. -/
theorem onlyFloatComparesSignal : Obligations.OnlyFloatComparesSignal := by
  refine ⟨fun s t h => ?_, fun i s hop => ⟨fun f hf => ?_, fun t ht => ?_⟩⟩
  · obtain ⟨why, -, e⟩ | ⟨-, why, -, e⟩ | ⟨-, i, rest, hdecode, e⟩ := step_cases s
    · simp [e] at h
    · simp [e] at h
    · obtain _ | _ | _ | _ | _ | ⟨-, hsignal, hmode⟩ := exec_eq_iff_gives.mp (e ▸ h)
      refine ⟨hmode, i, rest, hdecode, ?_, hsignal⟩
      by_contra hop
      exact not_someLaneSignals_of_not_float (Nat.le_of_not_lt hop) s hsignal
  · obtain _ | _ | ⟨-, -, hread⟩ | _ | _ | ⟨-, hsignal, -⟩ := exec_eq_iff_gives.mp hf
    · exact ⟨rfl, hread⟩
    · exact absurd hsignal (not_someLaneSignals_of_not_float hop s)
  · exact Bool.eq_iff_iff.mpr (by simp [Wrote.signal_iff (.inl ht), not_someLaneSignals_of_not_float hop s])

/-- A step from the state runs a floating-point compare that signals in an executing lane. -/
def StepSignals (s : State) : Prop :=
  ∃ i rest, decode s.config s.fetchBytes = .ok (i, rest) ∧ i.opcode < 128 ∧ someLaneSignals s (laneSignals i s)

/-- SIGNAL after a step (10_state.md R30). -/
theorem step_signal {s t : State} (h : step s = .next t) : t.signal = true ↔ s.signal = true ∨ StepSignals s := by
  obtain ⟨i, rest, hdecode, hwrote⟩ := step_wrote h
  rw [hwrote.signal_iff]
  refine or_congr_right ⟨fun hsignal => ⟨i, rest, hdecode, ?_, hsignal⟩, fun ⟨j, rest', hdecode', _, hsignal⟩ => ?_⟩
  · by_contra hop
    exact not_someLaneSignals_of_not_float (Nat.le_of_not_lt hop) s hsignal
  · rw [hdecode] at hdecode'
    cases hdecode'
    exact hsignal

/-- Settles O38: the instruction at the pc is the one that `step_signal` speaks of. -/
theorem signalIsSticky : Obligations.SignalIsSticky := by
  intro s t h i rest hdecode
  rw [step_signal h]
  refine or_congr_right ⟨fun ⟨j, rest', hdecode', hop, hsignal⟩ => ?_, fun ⟨hop, hsignal⟩ => ⟨i, rest, hdecode, hop, hsignal⟩⟩
  rw [hdecode] at hdecode'
  cases hdecode'
  exact ⟨hop, hsignal⟩

/-! Registers that hold a value (10_state.md R31). -/

/-- Where every register holds a value, so does every admitted source: admission keeps a pair inside its file. -/
theorem holds_of_admitted {cfg : Config} {w : Width} {litOk mask : Bool} {src : Src} (hadmit : admitSrc cfg w litOk mask src = none)
    {s : State} (h : AllHold s) {L : Nat} (hL : L < 64) : holds w s src L = true := by
  have hfile : numSgpr cfg.version ≤ 104 := by cases cfg.version <;> decide
  cases src with
  | sgpr n =>
    cases w with
    | b32 => exact h.sgprs n n.isLt
    | b64 =>
      have hpair : n.val + 1 < 104 := by
        by_contra hout
        have hstart : pairStart cfg n = false := by simp [pairStart]; omega
        simp only [admitSrc, hstart, Bool.false_eq_true, if_false] at hadmit
        split_ifs at hadmit
      exact Bool.and_eq_true_iff.mpr ⟨h.sgprs n n.isLt, h.sgprs _ hpair⟩
  | vgpr n =>
    cases w with
    | b32 => exact h.vgprs n L n.isLt hL
    | b64 =>
      have hpair : n.val + 1 < 256 := by
        by_contra hout
        simp [admitSrc, show n.val = 255 by omega] at hadmit
      exact Bool.and_eq_true_iff.mpr ⟨h.vgprs n L n.isLt hL, h.vgprs _ L hpair hL⟩
  | vccLo =>
    cases w with
    | b32 => exact h.vccLo
    | b64 => exact Bool.and_eq_true_iff.mpr ⟨h.vccLo, h.vccHi⟩
  | vccHi => cases w <;> exact h.vccHi
  | m0 => cases w <;> exact h.m0
  | execLo | execHi | inlineInt | inlineFloat | literal => cases w <;> rfl

/-- Both sources of a well-formed instruction are admitted. -/
theorem sources_admitted {cfg : Config} {i : Instr} (h : i.WellFormed cfg) :
    (∃ litOk, admitSrc cfg (opcodeWidth i.opcode) litOk false i.form.src0 = none) ∧
    admitSrc cfg (opcodeWidth i.opcode) false (opcodeHasMask64 i.opcode) i.form.src1 = none := by
  unfold Instr.WellFormed Instr.check at h
  cases hform : i.form with
  | vopc src0 vsrc1 =>
    rw [hform, admitForm_vopc] at h
    exact ⟨⟨true, h.1⟩, h.2⟩
  | vop3 sdst mods src0 src1 =>
    rw [hform, admitForm_vop3] at h
    obtain ⟨hsrc0, hsrc1, -⟩ := h
    exact ⟨⟨false, hsrc0⟩, hsrc1⟩

/-- Where every register holds a value, a well-formed instruction reads none without. -/
theorem readable_of_allHold {i : Instr} {s : State} (hwf : i.WellFormed s.config) (h : AllHold s) : Readable i s := by
  obtain ⟨⟨litOk, hsrc0⟩, hsrc1⟩ := sources_admitted hwf
  intro L hL _
  exact Bool.and_eq_true_iff.mpr ⟨holds_of_admitted hsrc0 h hL, holds_of_admitted hsrc1 h hL⟩

/-- Settles O31: a well-formed instruction is readable there, and writes leave a register holding a value (O29). -/
theorem allHoldKeptByStep : Obligations.AllHoldKeptByStep := by
  intro s h
  refine ⟨fun hfault => ?_, fun t ht => ?_⟩
  · obtain ⟨why, -, e⟩ | ⟨-, why, -, e⟩ | ⟨-, i, rest, -, e⟩ := step_cases s
    · simp [e] at hfault
    · simp [e] at hfault
    · obtain ⟨hwf, -, L, hL, hx, hnot⟩ := (unwrittenRegisterFaults i s).mp (e ▸ hfault)
      rw [readable_of_allHold hwf h L hL hx] at hnot
      cases hnot
  · obtain ⟨i, rest, -, hwrote⟩ := step_wrote ht
    obtain ⟨hsgprs, hlo, hhi, hvgprs, hm0⟩ := registersHoldOnceWritten i s t hwrote
    exact {
      sgprs := fun n hn => (hsgprs n).mpr (.inl (h.sgprs n hn))
      vgprs := fun n L hn hL => (hvgprs n L).trans (h.vgprs n L hn hL)
      vccLo := hlo.mpr (.inl h.vccLo)
      vccHi := hhi.mpr (.inl h.vccHi)
      m0 := hm0.trans h.m0 }

/-! What every run keeps. -/

/-- A reflexive and transitive relation that every step establishes holds between the ends of every run. -/
theorem Reaches.relates {R : State → State → Prop} (hrefl : ∀ s, R s s) (htrans : ∀ {s u t}, R s u → R u t → R s t)
    (hstep : ∀ {s t}, step s = .next t → R s t) {k : Nat} : ∀ {s t : State}, Reaches k s t → R s t := by
  induction k with
  | zero =>
    intro s t h
    exact reaches_zero.mp h ▸ hrefl s
  | succ k ih =>
    intro s t h
    obtain ⟨u, hu, ht⟩ := reaches_succ.mp h
    exact htrans (hstep hu) (ih ht)

/-- The runs of one state are the same. -/
theorem Reaches.unique {k : Nat} {s t u : State} (ht : Reaches k s t) (hu : Reaches k s u) : t = u :=
  Host.Outcome.next.inj (ht.symm.trans hu)

/-- A lane that executes after a step executed before it (40_vopc_common.md R127). -/
theorem step_exec_subset {s t : State} (h : step s = .next t) (L : Nat) (hL : L < 64) (hx : t.execMask.getLsbD L = true) :
    s.execMask.getLsbD L = true := by
  obtain ⟨i, -, -, hwrote⟩ := step_wrote h
  rw [hwrote.compareDone.exec L hL, Bool.and_eq_true] at hx
  exact hx.1

/-- Settles O36: that EXEC only loses lanes is reflexive, transitive and true of a step. -/
theorem execOnlyLosesLanes : Obligations.ExecOnlyLosesLanes := fun _ _ _ h =>
  h.relates (R := fun s t => ∀ L, L < 64 → t.execMask.getLsbD L = true → s.execMask.getLsbD L = true)
    (fun _ _ _ hx => hx) (fun hsu hut L hL hx => hsu L hL (hut L hL hx)) step_exec_subset

/-- Settles O37: each field is kept by a step (`Wrote.unwritten_kept`), and so along a run. -/
theorem runKeepsUnwrittenState : Obligations.RunKeepsUnwrittenState := by
  intro k s t h
  have hkept := h.relates (R := fun s t => t.vgprs = s.vgprs ∧ t.vgprHas = s.vgprHas ∧ t.m0 = s.m0 ∧ t.m0Has = s.m0Has ∧
      t.mem = s.mem ∧ t.programBase = s.programBase ∧ t.config = s.config)
    (fun _ => ⟨rfl, rfl, rfl, rfl, rfl, rfl, rfl⟩)
    (fun ⟨a, b, c, d, e, f, g⟩ ⟨a', b', c', d', e', f', g'⟩ =>
      ⟨a'.trans a, b'.trans b, c'.trans c, d'.trans d, e'.trans e, f'.trans f, g'.trans g⟩)
    fun hstep => by
      obtain ⟨i, -, -, hwrote⟩ := step_wrote hstep
      exact hwrote.unwritten_kept
  obtain ⟨hvgprs, hvgprHas, hm0, hm0Has, hmem, hbase, hconfig⟩ := hkept
  exact ⟨hvgprs, hvgprHas, hm0, hm0Has, fun a => by rw [hmem], hmem, hbase, hconfig⟩

/-! Launched states (70_reset_and_hazards.md R541, R544, R550). -/

/-- A step advances the pc by 4 or 8 bytes, not beyond PROGRAM_END, which stays where it is. -/
theorem step_pc {s t : State} (h : step s = .next t) :
    (t.pc = s.pc + 4 ∨ t.pc = s.pc + 8) ∧ t.pc ≤ s.programEnd ∧ t.programEnd = s.programEnd := by
  obtain ⟨i, rest, hdecode, hwrote⟩ := step_wrote h
  obtain ⟨-, hend⟩ := fetched_in_program hdecode
  obtain ⟨-, -, -, -, hmem, hbase, -⟩ := hwrote.unwritten_kept
  have hpc := hwrote.pc_eq
  have hlength := i.form.length_eq
  exact ⟨by omega, by omega, by rw [State.programEnd, State.programEnd, hmem, hbase]⟩

/-- Settles O55: memory and base stay, and the pc advances by words inside the program (`step_pc`). -/
theorem launchedKeptByStep : Obligations.LaunchedKeptByStep := by
  intro s t h hstep
  obtain ⟨i, -, -, hwrote⟩ := step_wrote hstep
  obtain ⟨-, -, -, -, hmem, hbase, -⟩ := hwrote.unwritten_kept
  obtain ⟨hpc, hend, hsame⟩ := step_pc hstep
  have haligned := h.pc_aligned
  have hlow := h.base_le_pc
  exact {
    base_aligned := hbase ▸ h.base_aligned
    placed := by rw [hmem, hbase]; exact h.placed
    pc_aligned := by omega
    base_le_pc := by omega
    pc_le_end := hsame.symm ▸ hend }

/-- Every run from a launched state stays in the launched states. -/
theorem Reaches.launched {k : Nat} {s t : State} (h : Reaches k s t) : Launched s → Launched t :=
  h.relates (R := fun s t => Launched s → Launched t) (fun _ => id) (fun hsu hut => hut ∘ hsu)
    fun hstep hs => launchedKeptByStep _ _ hs hstep

/-- Settles O53: a launch is a launched state, and runs keep the invariant, memory and the base. -/
theorem launchRunsStayLaunched : Obligations.LaunchRunsStayLaunched := by
  intro k s t hlaunch h
  obtain ⟨-, -, -, -, -, hmem, hbase, -⟩ := runKeepsUnwrittenState k s t h
  exact ⟨h.launched hlaunch.launched, hmem, hbase⟩

/-- `k` steps advance the pc by at least `4 k`. -/
theorem Reaches.pc_ge {k : Nat} : ∀ {s t : State}, Reaches k s t → s.pc + 4 * k ≤ t.pc := by
  induction k with
  | zero =>
    intro s t h
    exact (reaches_zero.mp h ▸ le_refl s.pc : s.pc ≤ t.pc)
  | succ k ih =>
    intro s t h
    obtain ⟨u, hu, ht⟩ := reaches_succ.mp h
    obtain ⟨hpc, -⟩ := step_pc hu
    have := ih ht
    omega

/-- Settles O57: the pc advances by at least 4 a step (`Reaches.pc_ge`) and stays within the program (`Reaches.launched`). -/
theorem runTerminates : Obligations.RunTerminates := by
  intro k s t hs h
  obtain ⟨-, -, -, -, -, hmem, hbase, -⟩ := runKeepsUnwrittenState k s t h
  have hpc := h.pc_ge
  have hend := (h.launched hs).pc_le_end
  simp only [State.programEnd, hmem, hbase] at hend ⊢
  exact ⟨hpc, hend, fun hstart => by omega⟩

/-- SIGNAL after a run is 1 exactly if it was or a step of the run signalled (10_state.md R30). -/
theorem Reaches.signal_iff {k : Nat} {s : State} : ∀ {t : State}, Reaches k s t →
    (t.signal = true ↔ s.signal = true ∨ ∃ j u, j < k ∧ Reaches j s u ∧ StepSignals u) := by
  induction k with
  | zero =>
    intro t h
    simp [reaches_zero.mp h]
  | succ k ih =>
    intro t h
    obtain ⟨u, hu, ht⟩ := reaches_succ_last.mp h
    rw [step_signal ht, ih hu, or_assoc]
    refine or_congr_right ⟨?_, ?_⟩
    · rintro (⟨j, v, hj, hv, hsignal⟩ | hsignal)
      · exact ⟨j, v, by omega, hv, hsignal⟩
      · exact ⟨k, u, Nat.lt_succ_self k, hu, hsignal⟩
    · rintro ⟨j, v, hj, hv, hsignal⟩
      obtain hlt | rfl := Nat.lt_succ_iff_lt_or_eq.mp hj
      · exact .inl ⟨j, v, hlt, hv, hsignal⟩
      · exact .inr (hu.unique hv ▸ hsignal)

/-- Settles O54: a launch starts with SIGNAL = 0, so that only a step of the run can have set it. -/
theorem signalRecordsThisRun : Obligations.SignalRecordsThisRun := by
  intro k s t hlaunch h
  rw [h.signal_iff, hlaunch.signal_clear]
  simp only [Bool.false_eq_true, false_or, StepSignals]
  constructor
  · exact fun ⟨j, u, hj, hu, i, rest, hsignal⟩ => ⟨j, u, i, rest, hj, hu, hsignal⟩
  · exact fun ⟨j, u, i, rest, hj, hu, hsignal⟩ => ⟨j, u, hj, hu, i, rest, hsignal⟩

/-- A placed program is in canonical form: each address is the one before plus 1 (20_memory.md R50). -/
theorem Memory.wf_of_placedAt (m : Memory) : ∀ base, Memory.placedAt m base = true → Memory.wf m = true := by
  induction m with
  | nil => exact fun _ _ => rfl
  | cons c m ih =>
    obtain ⟨a, b⟩ := c
    intro base h
    simp only [Memory.placedAt, Bool.and_eq_true, beq_iff_eq] at h
    obtain ⟨rfl, hrest⟩ := h
    refine (Memory.wf_cons _ _).mpr ⟨fun d hd => ?_, ih _ hrest⟩
    cases m with
    | nil => simp at hd
    | cons e m =>
      simp only [Memory.placedAt, Bool.and_eq_true, beq_iff_eq] at hrest
      obtain rfl : e = d := by simpa using hd
      change a < e.1
      omega

/-- Settles O56, by the canonical form of a placed program and the addresses it holds. -/
theorem launchedMemoryIsTheProgram : Obligations.LaunchedMemoryIsTheProgram := fun _ h =>
  ⟨Memory.wf_of_placedAt _ _ h.placed, Memory.read_isSome_of_placedAt _ _ h.placed⟩

/-! The end of a run and the program's bounds (20_memory.md R50, 70_reset_and_hazards.md R544). -/

/-- Settles O58: at an aligned pc a step that fetches nothing is at the end, and no other refusal is named so. -/
theorem runEndsAtProgramEnd : Obligations.RunEndsAtProgramEnd := by
  intro s hbase hpc
  have hnoFetch := noFetch_of_aligned hbase hpc
  constructor
  · intro h
    by_contra hend
    rw [if_neg hend] at hnoFetch
    obtain ⟨why, hwhy, -⟩ | ⟨-, why, -, e⟩ | ⟨-, i, rest, -, e⟩ := step_cases s
    · simp [hnoFetch] at hwhy
    · simp [e] at h
    · cases exec_eq_iff_gives.mp (e ▸ h)
  · intro hend
    rw [if_pos hend] at hnoFetch
    simp [step, hnoFetch]

/-- Fewer than four bytes are no word (20_memory.md R50). -/
theorem decode_of_short {cfg : Config} (hmap : ¬ (cfg.version = .v1_2 ∧ cfg.gcn12Map = [])) {bytes : List Byte}
    (h : bytes.length < 4) : decode cfg bytes = .error .fetchOutsideProgram := by
  simp only [decode, if_neg hmap, takeWord_eq_none.mpr h]

/-- A first word that wants a second one is refused with fewer than four bytes behind it (20_memory.md R50). -/
theorem decode_of_short_second {cfg : Config} (hmap : ¬ (cfg.version = .v1_2 ∧ cfg.gcn12Map = [])) {w : Word}
    (hw : wantsSecondWord w) {tail : List Byte} (h : tail.length < 4) :
    decode cfg (bytesOfWord w ++ tail) = .error .fetchOutsideProgram := by
  simp only [decode, if_neg hmap, takeWord_bytesOfWord, takeWord_eq_none.mpr h]
  obtain ⟨henc, hsrc0⟩ | henc := hw
  · rw [if_pos henc, if_pos hsrc0]
  · have hnot : field w 25 7 ≠ 0x3E := by
      simp only [field] at henc ⊢
      omega
    rw [if_neg hnot, if_pos henc]

/-- An aligned step whose bytes are refused as outside the program is refused so. -/
theorem step_refused_outside {s : State} (hbase : s.programBase % 4 = 0) (hpc : s.pc % 4 = 0) (hend : s.pc ≠ s.programEnd)
    (h : decode s.config s.fetchBytes = .error .fetchOutsideProgram) : step s = .refused (.rejected .fetchOutsideProgram) := by
  simp [step, noFetch_eq_none.mpr ⟨hbase, hpc, hend⟩, fetchInstr, h, Except.map]

/-- Settles O59: before the base no byte is found, and else no more than are left to the end. -/
theorem fetchOutsideProgramRefused : Obligations.FetchOutsideProgramRefused := by
  refine ⟨fun s hmap hbase hpc hend hout => ?first, fun s w hmap hbase hpc hlow hfour height hword hwants => ?second⟩
  case first =>
    refine step_refused_outside hbase hpc hend (decode_of_short (not_and.mpr hmap) ?_)
    by_cases hbefore : s.pc < s.programBase
    · rw [State.fetchBytes, if_neg (Nat.not_le.mpr hbefore)]
      decide
    · have := s.fetchBytes_length_le
      omega
  case second =>
    obtain ⟨tail, hbytes⟩ := s.fetchBytes_of_read (bytesOfWord w) (by simp [bytesOfWord]) hlow (by simpa [bytesOfWord] using hfour)
      fun k hk => by
        have hread := Memory.readRun_getElem s.mem 4 s.pc k (hword ▸ hk)
        simpa only [hword] using hread
    have hlength := s.fetchBytes_length_le
    have hfirst : (bytesOfWord w).length = 4 := rfl
    rw [hbytes, List.length_append, hfirst] at hlength
    refine step_refused_outside hbase hpc (by omega) ?_
    rw [hbytes]
    exact decode_of_short_second (not_and.mpr hmap) hwants (by omega)

/-! Lanes that do not execute (10_state.md R24, R31; 40_vopc_common.md R121). -/

/-- The VGPR file `other`, of which `has` says what holds a value, agrees with a state's in every executing lane. -/
def AgreesInExecutingLanes (s : State) (other : Vector (Vector Word 64) 256) (has : Vector LaneMask 256) : Prop :=
  ∀ n L, L < 64 → s.execMask.getLsbD L = true →
    State.vgpr { s with vgprs := other, vgprHas := has } n L = s.vgpr n L ∧
    State.vgprHolds { s with vgprs := other, vgprHas := has } n L = s.vgprHolds n L

section
variable {s : State} {other : Vector (Vector Word 64) 256} {has : Vector LaneMask 256} (h : AgreesInExecutingLanes s other has)
include h

/-- In an executing lane both files give the same result and the same signal. -/
theorem lane_with_vgprs (i : Instr) {L : Nat} (hL : L < 64) (hx : s.execMask.getLsbD L = true) :
    laneResult i { s with vgprs := other, vgprHas := has } L = laneResult i s L ∧
    laneSignals i { s with vgprs := other, vgprHas := has } L = laneSignals i s L := by
  have hfetch : ∀ w src, fetch w { s with vgprs := other, vgprHas := has } src L = fetch w s src L :=
    fun w src => fetch_vgprs w s other has src L fun n => (h n L hL hx).1
  simp only [laneResult, laneSignals, operand0, operand1, hfetch, and_self]

/-- The signal of an executing lane is the same for both files. -/
theorem someLaneSignals_with_vgprs (i : Instr) :
    someLaneSignals { s with vgprs := other, vgprHas := has } (laneSignals i { s with vgprs := other, vgprHas := has }) ↔
      someLaneSignals s (laneSignals i s) := by
  refine exists_congr fun L => and_congr_right fun hL => and_congr_right fun hx => ?_
  rw [(lane_with_vgprs h i hL hx).2]

/-- An instruction executes with the one file if it does with the other. -/
theorem executes_with_vgprs {i : Instr} (hexec : Executes i s) : Executes i { s with vgprs := other, vgprHas := has } := by
  obtain ⟨hwf, hfits, hread⟩ := hexec
  refine ⟨hwf, hfits, fun L hL hx => ?_⟩
  have hholds : ∀ w src, holds w { s with vgprs := other, vgprHas := has } src L = holds w s src L :=
    fun w src => holds_vgprs w s other has src L fun n => (h n L hL hx).2
  rw [operandsHold, hholds, hholds]
  exact hread L hL hx

/-- The result masks of both files are the same. -/
theorem resultMask_with_vgprs (i : Instr) :
    resultMask { s with vgprs := other, vgprHas := has } (laneResult i { s with vgprs := other, vgprHas := has }) =
      resultMask s (laneResult i s) := by
  refine eq_resultMask fun L hL => ?_
  rw [resultMask_getLsbD _ _ hL]
  change (s.execMask.getLsbD L && _) = _
  cases hx : s.execMask.getLsbD L with
  | false => rw [Bool.false_and, Bool.false_and]
  | true => rw [(lane_with_vgprs h i hL hx).1]

/-- The done states differ in the file only. -/
theorem doneState_with_vgprs (i : Instr) : doneState i { s with vgprs := other, vgprHas := has } =
    { doneState i s with vgprs := other, vgprHas := has } :=
  (congrArg (compareState { s with vgprs := other, vgprHas := has } i.form (decide (i.opcode / 16 % 2 = 1)))
    (resultMask_with_vgprs h i)).trans (compareState_with_vgprs s other has i.form _ _)

/-- A step that goes on with the one file goes on with the other, to a state that differs in the file only. -/
theorem step_with_vgprs {t : State} (hstep : step s = .next t) :
    step { s with vgprs := other, vgprHas := has } = .next { t with vgprs := other, vgprHas := has } := by
  obtain ⟨hfetch, i, hi, hexec⟩ := step_next hstep
  have hrun : step { s with vgprs := other, vgprHas := has } = exec i { s with vgprs := other, vgprHas := has } := by
    simp only [step, show noFetch { s with vgprs := other, vgprHas := has } = none from hfetch,
      show fetchInstr { s with vgprs := other, vgprHas := has } = .ok i from hi]
  rw [hrun, exec_eq_iff_gives]
  have hdone := doneState_with_vgprs h i
  obtain _ | _ | _ | ⟨he, hquiet⟩ | ⟨he, hsignal, hmode⟩ | _ := exec_eq_iff_gives.mp hexec
  · exact hdone ▸ .done (executes_with_vgprs h he) (mt (someLaneSignals_with_vgprs h i).mp hquiet)
  · have hset : { (doneState i s).setSignal with vgprs := other, vgprHas := has } =
        (doneState i { s with vgprs := other, vgprHas := has }).setSignal := by rw [hdone]; rfl
    rw [hset]
    exact .flagged (executes_with_vgprs h he) ((someLaneSignals_with_vgprs h i).mpr hsignal) hmode

/-- After a step the two files agree in every lane that executes then. -/
theorem agrees_after_step {t : State} (hstep : step s = .next t) : AgreesInExecutingLanes t other has := by
  obtain ⟨i, -, -, hwrote⟩ := step_wrote hstep
  obtain ⟨hvgprs, hvgprHas, -⟩ := hwrote.unwritten_kept
  intro n L hL hx
  obtain ⟨hvalue, hhold⟩ := h n L hL (step_exec_subset hstep L hL hx)
  rw [State.vgpr_congr hvgprs, State.vgprHolds_congr hvgprHas]
  exact ⟨hvalue, hhold⟩

end

/-- Settles O60, by induction on the number of steps: each goes on with both files (`step_with_vgprs`), which then agree again,
since EXEC only loses lanes. -/
theorem disabledLanesUnobserved : Obligations.DisabledLanesUnobserved := by
  intro k
  induction k with
  | zero =>
    intro s t other has _ hreach
    exact reaches_zero.mpr (by rw [reaches_zero.mp hreach])
  | succ k ih =>
    intro s t other has hagree hreach
    obtain ⟨u, hu, ht⟩ := reaches_succ.mp hreach
    exact reaches_succ.mpr ⟨_, step_with_vgprs hagree hu, ih u t other has (agrees_after_step hagree hu) ht⟩

end Sys2Proof.Machine
end
